-- ==== Sys2Proof/Word.lean ====
section
/-! DEFINITION. The word types of the PF640's link and the two line levels. -/

namespace Sys2Proof

/-- One byte of the link (10 R176: 8 data bits). -/
abbrev Byte := BitVec 8

/-- A 16-bit field of the link (10 R178). -/
abbrev Half := BitVec 16

/-- The electrical level of a line. -/
inductive Level where
  | low
  | high
  deriving DecidableEq, Repr

end Sys2Proof
end

