-- ==== Sys2Proof/Syntax.lean ====
section
/-! DEFINITION. The commands of the PF640: one constructor of `Instr` per row of the table of
operations and events, and the operand shapes they carry. Request operands have their widths on
the link (10 R178), so that they take exactly the values a frame can carry. -/

namespace Sys2Proof

/-- The two phases of the linear scale (03 R39). -/
inductive Phase where
  | a
  | b
  deriving DecidableEq, Repr

/-- What one 25 ns sample shows of the filtered phases: one changed, or both (03 R41, R42). -/
inductive Transition where
  | one (p : Phase)
  | both
  deriving DecidableEq, Repr

/-- The levels the part samples at the release of power-on reset (03 R39, R40; 10 R176). -/
structure Straps where
  baud1 : Level
  baud0 : Level
  dirsel : Level
  encA : Level
  encB : Level
  encZ : Level
  deriving DecidableEq, Repr

/-- One pin record as MAP_ADD carries it, 6 bytes (06 R104, 10 R179). -/
structure PinWire where
  pin : BitVec 16
  segment : Byte
  engage : BitVec 16
  cls : Byte
  deriving DecidableEq, Repr

/-- One line record as SET_LINES carries it: function code and active level (09 R174). -/
structure LineWire where
  function : Byte
  active : Byte
  deriving DecidableEq, Repr

/-- The seventeen fields of SET_STROKE, 37 bytes, in order of index (04 R61, 10 R178). -/
structure StrokeWire where
  homeZone : BitVec 24
  captureStart : BitVec 24
  endPosition : BitVec 24
  pitch : Byte
  maxStations : BitVec 16
  mode : Byte
  span : Byte
  rise : BitVec 32
  floor : BitVec 32
  earliest : BitVec 16
  seatPosition : BitVec 24
  dwell : BitVec 16
  allowance : Byte
  segPersistence : Byte
  totalLimit : BitVec 32
  totalPersistence : Byte
  tolerance : Byte
  deriving DecidableEq, Repr

/-- The five writable fields of a segment record, with its number, as SET_SEGMENT carries them
(01 R15). -/
structure SegmentWire where
  segment : Byte
  enabled : Byte
  masked : Byte
  gain : BitVec 16
  shuntRef : BitVec 16
  tripLimit : BitVec 16
  deriving DecidableEq, Repr

/-- The seven fields of SET_CLASS in order of index (06 R117, R118). The limits are signed. -/
structure ClassWire where
  number : Byte
  absent : BitVec 16
  low : BitVec 16
  high : BitVec 16
  lead : Byte
  span : Byte
  depth : Byte
  deriving DecidableEq, Repr

/-- The requests of the link (10 R179), as the receiver hands them to their owners. -/
inductive Request where
  | ping
  | status
  | countersRead
  | setLink (interval : BitVec 16)
  | toolReset
  | setSense (period : BitVec 16)
  | setSegment (w : SegmentWire)
  | getSegment (segment : Byte)
  | snapshot
  | tare
  | shuntCheck (selection : Byte)
  | setStroke (w : StrokeWire)
  | getStroke
  | arm
  | disarm
  | abort
  | lockoutRead
  | lockoutClear
  | mapBegin
  | mapAdd (records : List PinWire)
  | mapCommit
  | mapRead (first : BitVec 16) (count : Byte)
  | setClass (w : ClassWire)
  | getClass (number : Byte)
  | profileRead (selector : Byte) (first : BitVec 16) (count : Byte)
  | resultRead (first : BitVec 16) (count : Byte)
  | resultSummary
  | setLines (records : List LineWire)
  | writeLines (values : Byte)
  | readLines
  deriving DecidableEq, Repr

/-- The commands: every row of spec/opcode_table.json. -/
inductive Instr where
  | ping
  | status
  | countersRead
  | setLink (interval : BitVec 16)
  | toolReset
  | toolResetActs
  | setSense (period : BitVec 16)
  | setSegment (w : SegmentWire)
  | getSegment (segment : Byte)
  | snapshot
  | tare
  | shuntCheck (selection : Byte)
  | setStroke (w : StrokeWire)
  | getStroke
  | arm
  | disarm
  | abort
  | lockoutRead
  | lockoutClear
  | mapBegin
  | mapAdd (records : List PinWire)
  | mapCommit
  | mapCommitCompletion
  | mapRead (first : BitVec 16) (count : Byte)
  | setClass (w : ClassWire)
  | getClass (number : Byte)
  | profileRead (selector : Byte) (first : BitVec 16) (count : Byte)
  | resultRead (first : BitVec 16) (count : Byte)
  | resultSummary
  | setLines (records : List LineWire)
  | writeLines (values : Byte)
  | readLines
  /-- The second check byte of a frame (10 R181). -/
  | frameReceived (check : Byte)
  /-- A length byte of 0 or above 249 (10 R180). -/
  | headerLengthError (length : Byte)
  | frameTimeout
  | discardGapEnd
  | deferredReplyPlaced
  | frameTransmitted
  | watchdogExpiry
  | linkReset
  /-- The rising edge that ends a low pulse on RESET_N of the given length in microseconds
  (09 R175). -/
  | resetNToolReset (lowMicros : Nat)
  | powerOnReset
  | powerOnResetRelease (straps : Straps)
  /-- The close of a conversion round, with the 64 bridge outputs in counts of the raw scale
  (01 R1, R3). -/
  | conversionRoundClose (bridges : List Int)
  | settleEnd
  | tripSegment
  | tripTotal
  | overrangeEvent (segment : Fin 64)
  | bottomRailPair (segment : Fin 64)
  | tareCompletion
  | shuntWaitEnd
  | shuntGroupJudged
  | encoderCount (phase : Phase)
  | encoderFault (transition : Transition)
  | referencePulse
  | overtravel
  | dwellExpiry
  | quietTimerExpiry
  | evaluationCompletion
  | stopNSenseChange (level : Level)
  | readbackTimerExpiry
  | lineFilterChange (line : Fin 8) (level : Level)
  | byteTaken (byte : Byte)
  deriving DecidableEq, Repr

end Sys2Proof
end

