-- ==== Sys2Proof/Decode.lean ====
section
/-! DEFINITION. Bytes and fields of the link, the decoder of a request frame (kind and payload to
`Request`, total, refusing by name), its encoder, and `decodeTableWord`. The table of operations
gives no row any bits. -/

namespace Sys2Proof

/-! ### Multi-byte fields, most significant byte first (00 section 4.3, 10 R178) -/

/-- The two bytes of a 16-bit field. -/
def bytes2 (w : BitVec 16) : List Byte :=
  [w.extractLsb' 8 8, w.extractLsb' 0 8]

/-- The three bytes of a 24-bit field. -/
def bytes3 (w : BitVec 24) : List Byte :=
  [w.extractLsb' 16 8, w.extractLsb' 8 8, w.extractLsb' 0 8]

/-- The four bytes of a 32-bit field. -/
def bytes4 (w : BitVec 32) : List Byte :=
  [w.extractLsb' 24 8, w.extractLsb' 16 8, w.extractLsb' 8 8, w.extractLsb' 0 8]

/-- The 16-bit field of two bytes. -/
def word2 (a b : Byte) : BitVec 16 := a ++ b

/-- The 24-bit field of three bytes. -/
def word3 (a b c : Byte) : BitVec 24 := a ++ (b ++ c)

/-- The 32-bit field of four bytes. -/
def word4 (a b c d : Byte) : BitVec 32 := a ++ (b ++ (c ++ d))

/-! ### The encoder: the kind and the payload of a request (10 R179) -/

/-- The kind byte of a request (10 R179). -/
def Request.kind : Request → Byte
  | .ping => 0x01
  | .status => 0x02
  | .countersRead => 0x03
  | .setLink _ => 0x04
  | .toolReset => 0x05
  | .setSense _ => 0x08
  | .setSegment _ => 0x09
  | .getSegment _ => 0x0A
  | .snapshot => 0x0B
  | .tare => 0x0C
  | .shuntCheck _ => 0x0D
  | .setStroke _ => 0x10
  | .getStroke => 0x11
  | .arm => 0x12
  | .disarm => 0x13
  | .abort => 0x14
  | .lockoutRead => 0x18
  | .lockoutClear => 0x19
  | .mapBegin => 0x20
  | .mapAdd _ => 0x21
  | .mapCommit => 0x22
  | .mapRead _ _ => 0x23
  | .setClass _ => 0x24
  | .getClass _ => 0x25
  | .profileRead _ _ _ => 0x28
  | .resultRead _ _ => 0x29
  | .resultSummary => 0x2A
  | .setLines _ => 0x30
  | .writeLines _ => 0x31
  | .readLines => 0x32

/-- The six bytes of a pin record (06 R104). -/
def PinWire.bytes (p : PinWire) : List Byte :=
  bytes2 p.pin ++ [p.segment] ++ bytes2 p.engage ++ [p.cls]

/-- The two bytes of a line record (09 R174). -/
def LineWire.bytes (l : LineWire) : List Byte :=
  [l.function, l.active]

/-- The nine bytes of SET_SEGMENT (01 R15). -/
def SegmentWire.bytes (w : SegmentWire) : List Byte :=
  [w.segment, w.enabled, w.masked] ++ bytes2 w.gain ++ bytes2 w.shuntRef ++ bytes2 w.tripLimit

/-- The 37 bytes of SET_STROKE, in order of index (04 R61, R62). -/
def StrokeWire.bytes (w : StrokeWire) : List Byte :=
  bytes3 w.homeZone ++ bytes3 w.captureStart ++ bytes3 w.endPosition ++ [w.pitch] ++
    bytes2 w.maxStations ++ [w.mode, w.span] ++ bytes4 w.rise ++ bytes4 w.floor ++
    bytes2 w.earliest ++ bytes3 w.seatPosition ++ bytes2 w.dwell ++
    [w.allowance, w.segPersistence] ++ bytes4 w.totalLimit ++ [w.totalPersistence, w.tolerance]

/-- The ten bytes of SET_CLASS, in order of index (06 R117, R118). -/
def ClassWire.bytes (w : ClassWire) : List Byte :=
  [w.number] ++ bytes2 w.absent ++ bytes2 w.low ++ bytes2 w.high ++ [w.lead, w.span, w.depth]

/-- The payload of a request, its fields in the order in which the owning rule names them
(10 R178). -/
def Request.payload : Request → List Byte
  | .setLink interval => bytes2 interval
  | .setSense period => bytes2 period
  | .setSegment w => w.bytes
  | .getSegment segment => [segment]
  | .shuntCheck selection => [selection]
  | .setStroke w => w.bytes
  | .mapAdd records => records.flatMap PinWire.bytes
  | .mapRead first count => bytes2 first ++ [count]
  | .setClass w => w.bytes
  | .getClass number => [number]
  | .profileRead selector first count => [selector] ++ bytes2 first ++ [count]
  | .resultRead first count => bytes2 first ++ [count]
  | .setLines records => records.flatMap LineWire.bytes
  | .writeLines values => [values]
  | .ping | .status | .countersRead | .toolReset | .snapshot | .tare | .getStroke | .arm
  | .disarm | .abort | .lockoutRead | .lockoutClear | .mapBegin | .mapCommit | .resultSummary
  | .readLines => []

/-- The command a request frame amounts to. -/
def Request.instr : Request → Instr
  | .ping => .ping
  | .status => .status
  | .countersRead => .countersRead
  | .setLink interval => .setLink interval
  | .toolReset => .toolReset
  | .setSense period => .setSense period
  | .setSegment w => .setSegment w
  | .getSegment segment => .getSegment segment
  | .snapshot => .snapshot
  | .tare => .tare
  | .shuntCheck selection => .shuntCheck selection
  | .setStroke w => .setStroke w
  | .getStroke => .getStroke
  | .arm => .arm
  | .disarm => .disarm
  | .abort => .abort
  | .lockoutRead => .lockoutRead
  | .lockoutClear => .lockoutClear
  | .mapBegin => .mapBegin
  | .mapAdd records => .mapAdd records
  | .mapCommit => .mapCommit
  | .mapRead first count => .mapRead first count
  | .setClass w => .setClass w
  | .getClass number => .getClass number
  | .profileRead selector first count => .profileRead selector first count
  | .resultRead first count => .resultRead first count
  | .resultSummary => .resultSummary
  | .setLines records => .setLines records
  | .writeLines values => .writeLines values
  | .readLines => .readLines

/-! ### The decoder (10 R179, R182) -/

/-- What the link unit finds in a good frame. -/
inductive Decoded where
  /-- An assigned request with a payload of its length. -/
  | request (r : Request)
  /-- The kind is not an assigned request: answered KIND (10 R182). -/
  | badKind
  /-- The payload length differs from that of the kind: answered LENGTH (10 R182). -/
  | badLength
  deriving DecidableEq, Repr

/-- The pin records of a MAP_ADD payload, 6 bytes each; bytes that fill no record are left. -/
def pinRecords : List Byte → List PinWire
  | a :: b :: c :: d :: e :: f :: rest =>
    { pin := word2 a b, segment := c, engage := word2 d e, cls := f } :: pinRecords rest
  | _ => []

/-- The line records of a SET_LINES payload, 2 bytes each. -/
def lineRecords : List Byte → List LineWire
  | a :: b :: rest => { function := a, active := b } :: lineRecords rest
  | _ => []

/-- The request `r` of a payload that must be empty. -/
def noPayload (r : Request) : List Byte → Decoded
  | [] => .request r
  | _ => .badLength

/-- The nine bytes of SET_SEGMENT. -/
def decodeSegment : List Byte → Decoded
  | [n, e, m, g1, g0, r1, r0, t1, t0] =>
    .request (.setSegment
      { segment := n, enabled := e, masked := m, gain := word2 g1 g0, shuntRef := word2 r1 r0,
        tripLimit := word2 t1 t0 })
  | _ => .badLength

/-- The ten bytes of SET_CLASS. -/
def decodeClass : List Byte → Decoded
  | [n, a1, a0, l1, l0, h1, h0, t, w, b] =>
    .request (.setClass
      { number := n, absent := word2 a1 a0, low := word2 l1 l0, high := word2 h1 h0, lead := t,
        span := w, depth := b })
  | _ => .badLength

/-- The 37 bytes of SET_STROKE, read by position in the payload. -/
def decodeStroke (p : List Byte) : Decoded :=
  let at' (i : Nat) : Byte := p.getD i 0
  if p.length = 37 then
    .request (.setStroke
      { homeZone := word3 (at' 0) (at' 1) (at' 2)
        captureStart := word3 (at' 3) (at' 4) (at' 5)
        endPosition := word3 (at' 6) (at' 7) (at' 8)
        pitch := at' 9
        maxStations := word2 (at' 10) (at' 11)
        mode := at' 12
        span := at' 13
        rise := word4 (at' 14) (at' 15) (at' 16) (at' 17)
        floor := word4 (at' 18) (at' 19) (at' 20) (at' 21)
        earliest := word2 (at' 22) (at' 23)
        seatPosition := word3 (at' 24) (at' 25) (at' 26)
        dwell := word2 (at' 27) (at' 28)
        allowance := at' 29
        segPersistence := at' 30
        totalLimit := word4 (at' 31) (at' 32) (at' 33) (at' 34)
        totalPersistence := at' 35
        tolerance := at' 36 })
  else .badLength

/-- The link unit's reading of a good frame: KIND, LENGTH, or a request for its owner
(10 R179, R182). -/
def decodeRequest (kind : Byte) (p : List Byte) : Decoded :=
  match kind.toNat with
  | 0x01 => noPayload .ping p
  | 0x02 => noPayload .status p
  | 0x03 => noPayload .countersRead p
  | 0x04 => match p with
    | [a, b] => .request (.setLink (word2 a b))
    | _ => .badLength
  | 0x05 => noPayload .toolReset p
  | 0x08 => match p with
    | [a, b] => .request (.setSense (word2 a b))
    | _ => .badLength
  | 0x09 => decodeSegment p
  | 0x0A => match p with
    | [n] => .request (.getSegment n)
    | _ => .badLength
  | 0x0B => noPayload .snapshot p
  | 0x0C => noPayload .tare p
  | 0x0D => match p with
    | [g] => .request (.shuntCheck g)
    | _ => .badLength
  | 0x10 => decodeStroke p
  | 0x11 => noPayload .getStroke p
  | 0x12 => noPayload .arm p
  | 0x13 => noPayload .disarm p
  | 0x14 => noPayload .abort p
  | 0x18 => noPayload .lockoutRead p
  | 0x19 => noPayload .lockoutClear p
  | 0x20 => noPayload .mapBegin p
  | 0x21 =>
    if p.length % 6 = 0 ∧ 6 ≤ p.length ∧ p.length ≤ 240 then .request (.mapAdd (pinRecords p))
    else .badLength
  | 0x22 => noPayload .mapCommit p
  | 0x23 => match p with
    | [a, b, c] => .request (.mapRead (word2 a b) c)
    | _ => .badLength
  | 0x24 => decodeClass p
  | 0x25 => match p with
    | [n] => .request (.getClass n)
    | _ => .badLength
  | 0x28 => match p with
    | [s, a, b, c] => .request (.profileRead s (word2 a b) c)
    | _ => .badLength
  | 0x29 => match p with
    | [a, b, c] => .request (.resultRead (word2 a b) c)
    | _ => .badLength
  | 0x2A => noPayload .resultSummary p
  | 0x30 => if p.length = 16 then .request (.setLines (lineRecords p)) else .badLength
  | 0x31 => match p with
    | [v] => .request (.writeLines v)
    | _ => .badLength
  | 0x32 => noPayload .readLines p
  | _ => .badKind

/-! ### The table's words -/

/-- The command a word spells by the table's bits. The table of operations gives no row any bits,
so no word spells a command. -/
def decodeTableWord (_nbits _w : Nat) : Option Instr := none

end Sys2Proof
end

