-- ==== Sys2Proof/Config.lean ====
section
/-! DEFINITION. The constants of the part, and the values the manual leaves open as opaque
constants without a body: no proof can see what they are. -/

namespace Sys2Proof.Config

/-- The raw code of the top rail (01 R1). -/
abbrev topRail : Int := 131071

/-- The raw code of the bottom rail (01 R1). -/
abbrev bottomRail : Int := -131072

/-- Segments of the tool (00 section 2). -/
abbrev segments : Nat := 64

/-- Station lines (09 R164). -/
abbrev stationLines : Nat := 8

/-- Places of the reply queue (10 R184). -/
abbrev replyPlaces : Nat := 4

/-- Places of the report queue (10 R184). -/
abbrev reportPlaces : Nat := 16

/-- Records the staging list holds at most (06 R105). -/
abbrev stagingPlaces : Nat := 2048

/-- Settle rounds after a start of a settle (01 R4). -/
abbrev settleRounds : Nat := 8

/-- FREE VALUE (log 9): the silicon revision of PING's reply, one of the 26 capital letters
(10 R190). -/
opaque revision : Fin 26

/-- FREE CHOICE (log 6, log 7): in which of the six orders three things that fall together are
taken (04 R72, 05 R90). The argument is the model's own counter of free choices. -/
opaque order : Nat → Fin 6

/-- FREE VALUE (log 11): which multiple of the period's step a bridge output between two of them
is converted to (01 R2). The arguments are the step and the output. -/
opaque coarse : Int → Int → Int

/-- FREE CHOICE (logs 8 and 35): whether a report goes out before a reply that entered the empty
queues of a free transmitter with it (10 R184). -/
opaque reportFirst : Nat → Bool

/-- FREE CHOICE (log 21): whether the filtered ENC_Z, high since a reference pulse, is found low
(03 R39, R44). The argument is the model's own counter of free choices. -/
opaque referenceFalls : Nat → Bool

end Sys2Proof.Config
end

