-- ==== Sys2Proof/Machine/State.lean ====
section
/-! DEFINITION. The state of the PF640, block by block (00 section 2), the fault and refusal
reasons, the state after power-on reset, and one update function per block. -/

namespace Sys2Proof.Machine

/-! ### Acquisition unit (chapter 1) -/

/-- The conversion period (01 R2). -/
inductive Period where
  | us250
  | us500
  | us1000
  | us2000
  deriving DecidableEq, Repr

/-- The status of a segment (01 R11). -/
inductive SegStatus where
  | ok
  | unchecked
  | shuntLow
  | shuntHigh
  | opened
  | offsetLimit
  deriving DecidableEq, Repr

/-- One record of the segment table (01 R11). -/
structure Segment where
  enabled : Bool
  masked : Bool
  gain : Nat
  offset : Int
  shuntRef : Nat
  tripLimit : Nat
  status : SegStatus
  deriving DecidableEq, Repr

/-- A segment record after power-on reset (01 R11). -/
def Segment.initial : Segment :=
  { enabled := false, masked := false, gain := 4096, offset := 0, shuntRef := 0,
    tripLimit := 32767, status := .unchecked }

/-- One sample of one segment (01 R3). A disabled segment carries no raw code (01 R1). -/
structure Sample where
  raw : Option Int
  force : Int
  sat : Bool
  settling : Bool
  deriving DecidableEq, Repr

/-- The 64 samples and the round total of one round (01 R3, R8). -/
structure SampleSet where
  samples : List Sample
  total : Int
  deriving DecidableEq, Repr

/-- The latest sample set before the first close after power-on reset (01 R3). -/
def SampleSet.initial : SampleSet :=
  { samples := List.replicate Config.segments
      { raw := some 0, force := 0, sat := false, settling := true }
    total := 0 }

/-- The acquisition unit. -/
structure Acq where
  period : Period
  settleCount : Nat
  segs : List Segment
  latest : SampleSet
  published : Option SampleSet
  topPairs : List Nat
  bottomPairs : List Nat
  deriving DecidableEq, Repr

/-- The acquisition unit after power-on reset (01 R21). -/
def Acq.initial : Acq :=
  { period := .us1000
    settleCount := Config.settleRounds
    segs := List.replicate Config.segments Segment.initial
    latest := SampleSet.initial
    published := none
    topPairs := List.replicate Config.segments 0
    bottomPairs := List.replicate Config.segments 0 }

/-! ### Calibration unit (chapter 2) -/

/-- The phase of a running operation (02 R23). -/
inductive CalPhase where
  | waitSettle
  | shuntWait
  | average
  deriving DecidableEq, Repr

/-- How many statuses of each kind a shunt check has written (02 R23, R33). -/
structure Tally where
  ok : Nat
  shuntLow : Nat
  shuntHigh : Nat
  opened : Nat
  offsetLimit : Nat
  deriving DecidableEq, Repr

/-- No status written yet. -/
def Tally.zero : Tally :=
  { ok := 0, shuntLow := 0, shuntHigh := 0, opened := 0, offsetLimit := 0 }

/-- What a SHUNT_CHECK holds beyond what a TARE holds (02 R23). -/
structure ShuntJob where
  groups : List Nat
  tolerance : Nat
  finished : List Nat
  tally : Tally
  deriving DecidableEq, Repr

/-- Which operation runs (02 R23). -/
inductive CalJob where
  | tare
  | shunt (job : ShuntJob)
  deriving DecidableEq, Repr

/-- The running operation with its progress and accumulators (02 R23). -/
structure CalRun where
  job : CalJob
  phase : CalPhase
  rounds : Nat
  participants : List Nat
  sums : List Int
  rails : List Bool
  deriving DecidableEq, Repr

/-- The calibration unit; no operation runs while `run` is none. -/
structure Cal where
  run : Option CalRun
  switches : List Bool
  tareValid : Bool
  deriving DecidableEq, Repr

/-- Every group's switches open (02 R23). -/
def switchesOpen : List Bool := List.replicate 4 false

/-- The calibration unit after power-on reset (02 R38). -/
def Cal.initial : Cal :=
  { run := none, switches := switchesOpen, tareValid := false }

/-! ### Position unit and profile store (chapters 3 and 8) -/

/-- Which order of the phases counts up (03 R40). -/
inductive Direction where
  | aLeadsUp
  | bLeadsUp
  deriving DecidableEq, Repr

/-- The copies taken at CAPTURE entry (03 R48). -/
structure StationCopies where
  start : Nat
  pitch : Nat
  limit : Nat
  deriving DecidableEq, Repr

/-- The position unit (03 section 3.1). -/
structure Pos where
  counter : Int
  referenced : Bool
  direction : Direction
  encA : Level
  encB : Level
  encZ : Level
  copies : Option StationCopies
  high : Nat
  roundSinceLatch : Bool
  stale : Nat
  deriving DecidableEq, Repr

/-- The position unit at the release of power-on reset (03 R39, R40, R55). -/
def Pos.initial (w : Straps) : Pos :=
  { counter := 0, referenced := false
    direction := match w.dirsel with
      | .low => .aLeadsUp
      | .high => .bLeadsUp
    encA := w.encA, encB := w.encB, encZ := w.encZ
    copies := none, high := 0, roundSinceLatch := false, stale := 0 }

/-- A station record (03 R50). -/
structure Station where
  index : Nat
  forces : List Int
  sats : List Bool
  stale : Bool
  total : Int
  position : Int
  deriving DecidableEq, Repr

/-- The profile condition (08 R148). -/
inductive ProfileCondition where
  | empty
  | capturing
  | closed
  deriving DecidableEq, Repr

/-- The profile store (08 R148). -/
structure Profile where
  records : List Station
  condition : ProfileCondition
  number : BitVec 16
  deriving DecidableEq, Repr

/-- The profile store emptied by a reset (08 R160). -/
def Profile.initial : Profile :=
  { records := [], condition := .empty, number := 0 }

/-! ### Stroke controller (chapter 4) -/

/-- The nine stroke states (04 section 4.1). -/
inductive StrokeState where
  | disarmed
  | ready
  | approach
  | capture
  | hold
  | halted
  | retract
  | evaluate
  | complete
  deriving DecidableEq, Repr

/-- The eleven halt causes (04 R56). -/
inductive HaltCause where
  | tripSegment
  | tripTotal
  | overrange
  | overtravel
  | stopReadback
  | externalStop
  | guardOpen
  | linkLost
  | encoderFault
  | aborted
  | noSeat
  deriving DecidableEq, Repr

/-- The outcome of a stroke (04 R56). -/
inductive StrokeOutcome where
  | none
  | seatedOk
  | halt (c : HaltCause)
  deriving DecidableEq, Repr

/-- The seating mode (04 R61). -/
inductive SeatingMode where
  | force
  | position
  | either
  deriving DecidableEq, Repr

/-- The stroke parameter set (04 R61). -/
structure Params where
  homeZone : Nat
  captureStart : Nat
  endPosition : Nat
  pitch : Nat
  maxStations : Nat
  mode : SeatingMode
  span : Nat
  rise : Nat
  floor : Nat
  earliest : Nat
  seatPosition : Nat
  dwell : Nat
  allowance : Nat
  segPersistence : Nat
  totalLimit : Nat
  totalPersistence : Nat
  tolerance : Nat
  deriving DecidableEq, Repr

/-- The stroke parameters after power-on reset (04 R61). -/
def Params.initial : Params :=
  { homeZone := 2000, captureStart := 100000, endPosition := 150000, pitch := 10
    maxStations := 1024, mode := .force, span := 4, rise := 2000, floor := 0, earliest := 0
    seatPosition := 150000, dwell := 200, allowance := 16, segPersistence := 3
    totalLimit := 2097152, totalPersistence := 3, tolerance := 5 }

/-- A timer of fixed length: the quiet timer (04 R56) and the readback timer (05 R82). -/
inductive Timer where
  | stopped
  | running
  | expired
  deriving DecidableEq, Repr

/-- The stroke controller (04 R56). `captured` is the model's own: the current stroke has entered
CAPTURE (log 14). `dwell` and the watchdog timer hold the time they were started with (log 12). -/
structure Stroke where
  state : StrokeState
  params : Params
  paramsValid : Bool
  number : BitVec 16
  outcome : StrokeOutcome
  secondary : Option HaltCause
  secondaryCount : Nat
  seat : Option Nat
  dwell : Option Nat
  quiet : Timer
  captureOpen : Bool
  captured : Bool
  deriving DecidableEq, Repr

/-- The stroke controller after power-on reset (04 R81). -/
def Stroke.initial : Stroke :=
  { state := .disarmed, params := Params.initial, paramsValid := false, number := 0
    outcome := .none, secondary := none, secondaryCount := 0, seat := none, dwell := none
    quiet := .stopped, captureOpen := false, captured := false }

/-! ### Guard unit (chapter 5) -/

/-- The reasons for which the head drives STOP_N low (05 R83). -/
inductive StopReason where
  | stroke
  | lockout
  | resetHold
  deriving DecidableEq, Repr

/-- The stop-reason set, each reason held at most once (05 R83). -/
structure StopSet where
  stroke : Bool
  lockout : Bool
  resetHold : Bool
  deriving DecidableEq, Repr

/-- The empty stop-reason set. -/
def StopSet.empty : StopSet :=
  { stroke := false, lockout := false, resetHold := false }

/-- The trip given in a stroke: its segment, or none for the total, and the force (05 R82). -/
structure TripDetail where
  segment : Option Nat
  force : Int
  deriving DecidableEq, Repr

/-- The causes of a lockout (05 R95). -/
inductive LockoutCause where
  | overrange
  | overtravel
  | stopReadback
  deriving DecidableEq, Repr

/-- The lockout record (05 R95). -/
structure Lockout where
  latched : Bool
  cause : Option LockoutCause
  number : BitVec 16
  segment : Option Nat
  station : Option Nat
  repeats : Nat
  deriving DecidableEq, Repr

/-- The empty lockout record (05 R95). -/
def Lockout.initial : Lockout :=
  { latched := false, cause := none, number := 0, segment := none, station := none, repeats := 0 }

/-- The guard unit (05 R82). -/
structure Guard where
  reasons : StopSet
  sensed : Level
  readback : Timer
  segPersist : List Nat
  totalPersist : Nat
  tripGiven : Bool
  trip : Option TripDetail
  counting : Bool
  overtravel : Nat
  overtravelGiven : Bool
  lockout : Lockout
  deriving DecidableEq, Repr

/-- The guard unit after power-on reset (05 R102). -/
def Guard.initial : Guard :=
  { reasons := StopSet.empty, sensed := .high, readback := .stopped
    segPersist := List.replicate Config.segments 0, totalPersist := 0
    tripGiven := false, trip := none, counting := false, overtravel := 0
    overtravelGiven := false, lockout := Lockout.initial }

/-! ### Map unit (chapter 6) -/

/-- A pin record (06 R104). -/
structure PinRecord where
  pin : Nat
  segment : Nat
  engage : Nat
  cls : Nat
  deriving DecidableEq, Repr

/-- The six values of a defined window class record (06 R117). -/
structure WindowClass where
  absent : Nat
  low : Nat
  high : Nat
  lead : Nat
  span : Nat
  depth : Nat
  deriving DecidableEq, Repr

/-- A commit in progress: the staging list and the defined classes as they stood when it was
taken (06 R103, R109; log 19). -/
structure Commit where
  list : List PinRecord
  defined : List Bool
  deriving DecidableEq, Repr

/-- The map unit (06 R103). The segment loads are computed from the active map. -/
structure MapUnit where
  staging : List PinRecord
  active : List PinRecord
  valid : Bool
  classes : List (Option WindowClass)
  commit : Option Commit
  deriving DecidableEq, Repr

/-- The map unit after power-on reset (06 R121). -/
def MapUnit.initial : MapUnit :=
  { staging := [], active := [], valid := false, classes := List.replicate 8 none, commit := none }

/-! ### Verdict engine (chapter 7) -/

/-- The six verdicts (07 R138). -/
inductive Verdict where
  | pass
  | low
  | high
  | absent
  | notReached
  | unverified
  deriving DecidableEq, Repr

/-- The flags of a cluster (07 R134, R135, R137). -/
structure Flags where
  baseClipped : Bool
  truncated : Bool
  sparse : Bool
  sat : Bool
  deriving DecidableEq, Repr

/-- No flag set. -/
def Flags.clear : Flags :=
  { baseClipped := false, truncated := false, sparse := false, sat := false }

/-- A result record (07 R139). Share and size are absent for NOT_REACHED and UNVERIFIED. -/
structure ResultRecord where
  pin : Nat
  segment : Nat
  engage : Nat
  verdict : Verdict
  share : Option Int
  size : Option Nat
  flags : Flags
  deriving DecidableEq, Repr

/-- The stroke result (07 R144). -/
inductive StrokeResult where
  | pass
  | incomplete
  | fail
  deriving DecidableEq, Repr

/-- The evaluation inputs, taken at the start (07 R123). -/
structure EvalInputs where
  last : Option Nat
  pitch : Nat
  usable : List Bool
  number : BitVec 16
  outcome : StrokeOutcome
  secondary : Option HaltCause
  secondaryCount : Nat
  seat : Option Nat
  trip : Option TripDetail
  overtravel : Nat
  deriving DecidableEq, Repr

/-- How many result records carry each verdict (07 R142). -/
structure VerdictCounts where
  pass : Nat
  low : Nat
  high : Nat
  absent : Nat
  notReached : Nat
  unverified : Nat
  deriving DecidableEq, Repr

/-- The stroke summary (07 R140). -/
structure Summary where
  number : BitVec 16
  outcome : StrokeOutcome
  secondary : Option HaltCause
  secondaryCount : Nat
  trip : Option TripDetail
  seat : Option Nat
  last : Option Nat
  overtravel : Nat
  peak : Option (Int × Nat)
  counts : VerdictCounts
  work : Nat
  result : StrokeResult
  deriving DecidableEq, Repr

/-- A cluster (07 R132, R133): its segment, the engage stations of its cohorts, its size, its
baseline window and its peak window. -/
structure Cluster where
  segment : Nat
  members : List Nat
  size : Nat
  baseLo : Int
  baseHi : Int
  peakLo : Int
  peakHi : Int
  deriving DecidableEq, Repr

/-- The working table (07 R122): the result records formed so far, and the clusters of the segment
in hand. -/
structure WorkTable where
  records : List ResultRecord
  clusters : List Cluster
  deriving DecidableEq, Repr

/-- The working table of an engine that has formed nothing. -/
def WorkTable.empty : WorkTable := { records := [], clusters := [] }

/-- The verdict engine (07 R122): RUNNING while `run` holds its inputs, IDLE otherwise, when the
working table is empty. -/
structure Engine where
  run : Option EvalInputs
  work : WorkTable
  results : List ResultRecord
  summary : Option Summary
  valid : Bool
  deriving DecidableEq, Repr

/-- The verdict engine after power-on reset (07 R147). -/
def Engine.initial : Engine :=
  { run := none, work := WorkTable.empty, results := [], summary := none, valid := false }

/-! ### Line unit (chapter 9) -/

/-- The nine line functions (09 R164). -/
inductive LineFunction where
  | generalIn
  | generalOut
  | home
  | guardInput
  | maint
  | retractReq
  | passOut
  | failOut
  | busyOut
  deriving DecidableEq, Repr

/-- One line record with its filter (09 R164). -/
structure Line where
  function : LineFunction
  active : Level
  stored : Bool
  filtered : Level
  deriving DecidableEq, Repr

/-- A line after power-on reset (09 R173). -/
def Line.initial : Line :=
  { function := .generalIn, active := .high, stored := false, filtered := .low }

/-- The result indication (09 R171). -/
inductive Indication where
  | none
  | pass
  | fail
  deriving DecidableEq, Repr

/-- The line unit (09 R164). -/
structure Lines where
  lines : List Line
  indication : Indication
  deriving DecidableEq, Repr

/-- The line unit after power-on reset (09 R173). -/
def Lines.initial : Lines :=
  { lines := List.replicate Config.stationLines Line.initial, indication := .none }

/-! ### Link unit (chapter 10) -/

/-- The status of a reply (10 R183). -/
inductive Status where
  | ok
  | busy
  | state
  | field
  | length
  | kind
  | notReady
  | notHome
  | full
  | noResults
  | noMaint
  | rail
  | notLatched
  | empty
  | dupPin
  | noClass
  | mixedCohort
  | cohortSize
  | segLoad
  deriving DecidableEq, Repr

/-- The severity of a report (10 R179). -/
inductive Severity where
  | info
  | note
  | stroke
  | tool
  deriving DecidableEq, Repr

/-- A reply in the reply queue: kind byte, status, and what follows the status. `resets` marks the
OK of a TOOL_RESET whose last check byte makes the tool reset act (10 R191). -/
structure Reply where
  kind : Byte
  status : Status
  detail : List Byte
  resets : Bool
  deriving DecidableEq, Repr

/-- A report in the report queue: kind byte, severity, and what follows the severity (10 R186). -/
structure Report where
  kind : Byte
  severity : Severity
  body : List Byte
  deriving DecidableEq, Repr

/-- A frame in transmission (10 R184). -/
inductive OutFrame where
  | reply (r : Reply)
  | report (r : Report)
  deriving DecidableEq, Repr

/-- A reply that waits for a place in the reply queue (10 R182). The reply to COUNTERS_READ is
formed when it is placed (10 R189). -/
inductive Waiting where
  | made (r : Reply)
  | counters
  deriving DecidableEq, Repr

/-- The receive buffer: empty, or what the request in it waits for (10 R181, R182). -/
inductive Buffer where
  | empty
  /-- A SNAPSHOT waiting for the next round close (01 R19). -/
  | snapshot
  /-- A MAP_COMMIT waiting for the end of its commit (06 R108). -/
  | mapCommit
  /-- A TOOL_RESET whose OK has been placed and not yet sent to its end (10 R191). -/
  | toolReset
  /-- A request whose reply waits for a place (10 R182). -/
  | waiting (w : Waiting)
  deriving DecidableEq, Repr

/-- The receiver (10 R180), with the partial frame it holds. -/
inductive Receiver where
  | seek
  | header
  | body (length : Byte) (taken : List Byte)
  | check (length : Byte) (taken : List Byte) (first : Option Byte)
  | discard
  deriving DecidableEq, Repr

/-- The link unit. -/
structure Link where
  baud1 : Level
  baud0 : Level
  receiver : Receiver
  buffer : Buffer
  replies : List Reply
  reports : List Report
  sending : Option OutFrame
  interval : Nat
  watchdog : Option Nat
  expiries : Nat
  crcErrors : Nat
  timeouts : Nat
  overruns : Nat
  lost : Nat
  deriving DecidableEq, Repr

/-- The link unit at the release of power-on reset (10 R193). -/
def Link.initial (w : Straps) : Link :=
  { baud1 := w.baud1, baud0 := w.baud0, receiver := .seek, buffer := .empty, replies := []
    reports := [], sending := none, interval := 500, watchdog := none, expiries := 0
    crcErrors := 0, timeouts := 0, overruns := 0, lost := 0 }

/-! ### The whole part -/

/-- The steps that an earlier step makes due (log 2), with what they carry: rows of the table, and
`snapshotReply`, the reply to a SNAPSHOT where a report of the same round close goes before it
(10 R184, log 35). -/
inductive Due where
  | settleEnd
  | tripSegment (segment : Nat) (force : Int)
  | tripTotal (total : Int)
  | overrange (segment : Nat)
  | bottomRail (segment : Nat)
  | tareCompletion
  | shuntWaitEnd
  | shuntGroupJudged
  | overtravel
  | deferredReply
  | toolReset
  | snapshotReply
  deriving DecidableEq, Repr

/-- The state of the PF640. `due` and `freeCount` are the model's own fields (log 2, log 10),
`pending` is the queue of waiting commands. -/
structure State where
  held : Bool
  acq : Acq
  cal : Cal
  pos : Pos
  profile : Profile
  stroke : Stroke
  guard : Guard
  map : MapUnit
  engine : Engine
  lines : Lines
  link : Link
  due : List Due
  freeCount : Nat
  pending : List Instr
  deriving DecidableEq, Repr

/-- Why a step stops with a fault. No command of the PF640 does: the spec gives every row an
effect or no effect in every state, so there is no constructor (NOTES.md, Stops). -/
inductive Fault where
  deriving DecidableEq, Repr

/-- Why a step is refused. -/
inductive Refusal where
  /-- Raised by an arm of `exec` that has no meaning yet; safe. No arm raises it. -/
  | notModelled (mnemonic : String)
  deriving DecidableEq, Repr

/-- The part at the release of power-on reset with the sampled levels `w`. -/
def State.released (w : Straps) : State :=
  { held := false, acq := Acq.initial, cal := Cal.initial, pos := Pos.initial w
    profile := Profile.initial, stroke := Stroke.initial, guard := Guard.initial
    map := MapUnit.initial, engine := Engine.initial, lines := Lines.initial
    link := Link.initial w, due := [], freeCount := 0, pending := [] }

/-- The levels State.reset takes: all low (DESIGN CHOICE, log 5). -/
def Straps.allLow : Straps :=
  { baud1 := .low, baud0 := .low, dirsel := .low, encA := .low, encB := .low, encZ := .low }

/-- The machine right after power-on reset is released. -/
def State.reset : State := State.released Straps.allLow

/-! ### One update per block -/

/-- Update the acquisition unit. -/
def State.onAcq (f : Acq → Acq) (s : State) : State := { s with acq := f s.acq }

/-- Update the calibration unit. -/
def State.onCal (f : Cal → Cal) (s : State) : State := { s with cal := f s.cal }

/-- Update the position unit. -/
def State.onPos (f : Pos → Pos) (s : State) : State := { s with pos := f s.pos }

/-- Update the profile store. -/
def State.onProfile (f : Profile → Profile) (s : State) : State := { s with profile := f s.profile }

/-- Update the stroke controller. -/
def State.onStroke (f : Stroke → Stroke) (s : State) : State := { s with stroke := f s.stroke }

/-- Update the guard unit. -/
def State.onGuard (f : Guard → Guard) (s : State) : State := { s with guard := f s.guard }

/-- Update the map unit. -/
def State.onMap (f : MapUnit → MapUnit) (s : State) : State := { s with map := f s.map }

/-- Update the verdict engine. -/
def State.onEngine (f : Engine → Engine) (s : State) : State := { s with engine := f s.engine }

/-- Update the line unit. -/
def State.onLines (f : Lines → Lines) (s : State) : State := { s with lines := f s.lines }

/-- Update the link unit. -/
def State.onLink (f : Link → Link) (s : State) : State := { s with link := f s.link }

/-- Replace the due steps. -/
def State.withDue (d : List Due) (s : State) : State := { s with due := d }

/-- Use up one free choice. -/
def State.tickFree (s : State) : State := { s with freeCount := s.freeCount + 1 }

end Sys2Proof.Machine
end

