-- ==== Sys2Proof/Machine/Force.lean ====
section
/-! DEFINITION. Integer arithmetic of the manual (00 section 4.2), the conversion of a bridge
output to a raw code and to a force (01 R1 to R8). -/

namespace Sys2Proof.Machine

/-- `n / d` rounded to nearest, halves away from zero (00 section 4.2). -/
def roundDiv (n : Int) (d : Nat) : Int :=
  if 0 ≤ n then (2 * n + d) / (2 * d) else -((2 * -n + d) / (2 * d))

/-- A value outside `lo` to `hi` is replaced by the nearer end (00 section 4.2). -/
def clamp (lo hi x : Int) : Int :=
  if x < lo then lo else if hi < x then hi else x

/-- A counter that holds at its upper limit (00 section 4.2). -/
def satSucc (limit n : Nat) : Nat :=
  if n < limit then n + 1 else limit

/-- The step of the raw codes at a conversion period (01 R2). -/
def Period.codeStep : Period → Int
  | .us250 => 8
  | .us500 => 4
  | .us1000 => 2
  | .us2000 => 1

/-- The raw code of an output between the ends of the scale that is no code of the period. Which
multiple of the step short of the rails it is, the manual does not say: a free value (log 11). -/
def coarseCode (period : Period) (output : Int) : Int :=
  clamp (Config.bottomRail / period.codeStep + 1) (Config.topRail / period.codeStep)
    (Config.coarse period.codeStep output) * period.codeStep

/-- The raw code of a bridge output (01 R1, R2): a rail when the output is at or beyond that end of
the scale, otherwise a multiple of the period's step, and the output itself when it is one. -/
def convert (period : Period) (output : Int) : Int :=
  if Config.topRail ≤ output then Config.topRail
  else if output ≤ Config.bottomRail then Config.bottomRail
  else if output % period.codeStep = 0 then output
  else coarseCode period output

/-- The rounded quotient of R6, before the clamp. -/
def scaled (gain : Nat) (offset raw : Int) : Int :=
  roundDiv ((raw - offset) * gain) 4096

/-- A raw code at either rail. -/
def atRail (raw : Int) : Bool :=
  raw == Config.topRail || raw == Config.bottomRail

/-- The force of a raw code (01 R6, R7): the ends of the range at the rails, otherwise the clamped
quotient. -/
def forceOf (gain : Nat) (offset raw : Int) : Int :=
  if raw = Config.topRail then 32767
  else if raw = Config.bottomRail then -32768
  else clamp (-32768) 32767 (scaled gain offset raw)

/-- The SAT flag of a raw code (01 R7): at a rail, or changed by the clamp. -/
def satOf (gain : Nat) (offset raw : Int) : Bool :=
  atRail raw || scaled gain offset raw < -32768 || 32767 < scaled gain offset raw

/-- The sample of a disabled segment: no raw code, force 0, no flags (01 R1). -/
def Sample.disabled : Sample :=
  { raw := none, force := 0, sat := false, settling := false }

/-- The sample a segment's record gives for a raw code at a close (01 R3). -/
def Segment.sample (g : Segment) (settling : Bool) (raw : Int) : Sample :=
  if g.enabled then
    { raw := some raw, force := forceOf g.gain g.offset raw, sat := satOf g.gain g.offset raw
      settling := settling }
  else Sample.disabled

/-- The bridge output of a segment among the operands of a close; a segment without one reads 0
(log 24). -/
def bridgeAt (bridges : List Int) (n : Nat) : Int := bridges.getD n 0

/-- The samples of a close, for all segments in ascending order (01 R3). -/
def samplesOf (period : Period) (settling : Bool) (segs : List Segment) (bridges : List Int) :
    List Sample :=
  segs.mapIdx fun n g => g.sample settling (convert period (bridgeAt bridges n))

/-- The round total: the sum of the forces, disabled segments contributing 0 (01 R8). -/
def totalOf (samples : List Sample) : Int := (samples.map Sample.force).sum

/-- The sample set of a close (01 R3, R8). -/
def sampleSet (a : Acq) (bridges : List Int) : SampleSet :=
  let samples := samplesOf a.period (decide (0 < a.settleCount)) a.segs bridges
  { samples := samples, total := totalOf samples }

/-- The sample of one segment in a set; a segment the set does not hold reads as disabled. -/
def SampleSet.at (set : SampleSet) (n : Nat) : Sample := set.samples.getD n Sample.disabled

/-- The segment record of a number; a number the table does not hold reads as a fresh record. -/
def Acq.seg (a : Acq) (n : Nat) : Segment := a.segs.getD n Segment.initial

/-- A segment's sample is at the top rail. -/
def Sample.atTop (x : Sample) : Bool := x.raw == some Config.topRail

/-- A segment's sample is at the bottom rail. -/
def Sample.atBottom (x : Sample) : Bool := x.raw == some Config.bottomRail

end Sys2Proof.Machine
end

