-- ==== Sys2Proof/Machine/Flags.lean ====
section
/-! DEFINITION. Conditions and levels the part computes from its state and does not store: home,
GUARD, PERMIT, the stop line's drive, the function lines, the counts STATUS reports. -/

namespace Sys2Proof.Machine

/-! ### Stroke states -/

/-- DISARMED or COMPLETE, the states in which the part is configured and calibrated. -/
def StrokeState.idle : StrokeState → Bool
  | .disarmed | .complete => true
  | .ready | .approach | .capture | .hold | .halted | .retract | .evaluate => false

/-- APPROACH or CAPTURE, where a halt cause becomes the outcome (04 R72). -/
def StrokeState.descending : StrokeState → Bool
  | .approach | .capture => true
  | .disarmed | .ready | .hold | .halted | .retract | .evaluate | .complete => false

/-- APPROACH, CAPTURE or HOLD: trips are examined (05 R87) and a guard opening halts (05 R94). -/
def StrokeState.guarded : StrokeState → Bool
  | .approach | .capture | .hold => true
  | .disarmed | .ready | .halted | .retract | .evaluate | .complete => false

/-- APPROACH, CAPTURE, HOLD or HALTED: overtravel counting may begin (05 R92). -/
def StrokeState.countsStops : StrokeState → Bool
  | .approach | .capture | .hold | .halted => true
  | .disarmed | .ready | .retract | .evaluate | .complete => false

/-- APPROACH, CAPTURE, HOLD, HALTED or RETRACT: an overrange event gives its halt cause (05 R91)
and an encoder fault is reported with severity STROKE (03 R42). -/
def StrokeState.inStroke : StrokeState → Bool
  | .approach | .capture | .hold | .halted | .retract => true
  | .disarmed | .ready | .evaluate | .complete => false

/-- HALTED or RETRACT: the ram is awaited at home (04 R58), RETRACT_REQ is active (04 R60). -/
def StrokeState.returning : StrokeState → Bool
  | .halted | .retract => true
  | .disarmed | .ready | .approach | .capture | .hold | .evaluate | .complete => false

/-- READY, APPROACH or CAPTURE, the states of PERMIT (04 R59). -/
def StrokeState.permits : StrokeState → Bool
  | .ready | .approach | .capture => true
  | .disarmed | .hold | .halted | .retract | .evaluate | .complete => false

/-- BUSY_OUT's states: APPROACH to EVALUATE (09 R170). -/
def StrokeState.busy : StrokeState → Bool
  | .approach | .capture | .hold | .halted | .retract | .evaluate => true
  | .disarmed | .ready | .complete => false

/-! ### Bridges (01 R1, 02 R23) -/

/-- The excitation the part drives on the bridge of a segment: on while the segment is enabled,
removed while it is disabled (01 R1); none is driven while the part is held in power-on reset, when
no segment is enabled. -/
def State.excites (s : State) (segment : Nat) : Bool := (s.acq.seg segment).enabled

/-- The shunt switch of a segment is closed with those of its group, enabled or not (01 R1,
02 R23). -/
def State.shuntClosed (s : State) (segment : Nat) : Bool := s.cal.switches.getD (segment / 16) false

/-! ### Lines -/

/-- The other level. -/
def otherLevel : Level → Level
  | .low => .high
  | .high => .low

/-- The line that holds a function, if it is assigned (09 R164). -/
def Lines.holding (u : Lines) (f : LineFunction) : Option Line :=
  u.lines.find? fun l => l.function == f

/-- The logical state of an input line: its filtered level equals its active level (09 R164). -/
def Line.inputActive (l : Line) : Bool := l.filtered == l.active

/-- Input functions are not driven (09 R164). -/
def LineFunction.isInput : LineFunction → Bool
  | .generalIn | .home | .guardInput | .maint => true
  | .generalOut | .retractReq | .passOut | .failOut | .busyOut => false

/-! ### Home, GUARD, MAINT -/

/-- The ram is home (04 R57): by the HOME line when it is assigned, otherwise referenced and within
the home zone. -/
def State.home (s : State) : Bool :=
  match s.lines.holding .home with
  | some l => l.inputActive
  | none => s.pos.referenced && decide (s.pos.counter ≤ s.stroke.params.homeZone)

/-- HOME is assigned to a line (03 R47, 04 R64). -/
def State.homeAssigned (s : State) : Bool := (s.lines.holding .home).isSome

/-- GUARD is OK (05 R94): not assigned, or its line active. -/
def State.guardOk (s : State) : Bool :=
  match s.lines.holding .guardInput with
  | some l => l.inputActive
  | none => true

/-- The maintenance key is on (05 R99): MAINT assigned and active. -/
def State.maintOn (s : State) : Bool :=
  match s.lines.holding .maint with
  | some l => l.inputActive
  | none => false

/-! ### Stop line and PERMIT -/

/-- No reason stands in the set. -/
def StopSet.isEmpty (r : StopSet) : Bool := !r.stroke && !r.lockout && !r.resetHold

/-- The set with one reason added (05 R83). -/
def StopSet.add (r : StopSet) : StopReason → StopSet
  | .stroke => { r with stroke := true }
  | .lockout => { r with lockout := true }
  | .resetHold => { r with resetHold := true }

/-- The set with one reason removed (05 R83). -/
def StopSet.remove (r : StopSet) : StopReason → StopSet
  | .stroke => { r with stroke := false }
  | .lockout => { r with lockout := false }
  | .resetHold => { r with resetHold := false }

/-- The head drives STOP_N low (05 R83). -/
def State.drivesStop (s : State) : Bool := !s.guard.reasons.isEmpty

/-- The level of PERMIT (04 R59). STOP_N is taken at its sensed level (05 R84). -/
def State.permit (s : State) : Bool :=
  s.stroke.state.permits && s.guardOk && s.guard.sensed == .high && !s.guard.lockout.latched

/-! ### Function outputs (09 R164, R170, R171) -/

/-- RETRACT_REQ's condition (04 R60, 09 R170). -/
def State.retractRequested (s : State) : Bool :=
  s.stroke.state.returning || s.guard.reasons.resetHold

/-- The logical state of a line (09 R164): an input by its filter, a GENERAL_OUT by its stored
value, an output function by its owner's condition. -/
def State.lineActive (s : State) (l : Line) : Bool :=
  match l.function with
  | .generalIn | .home | .guardInput | .maint => l.inputActive
  | .generalOut => l.stored
  | .retractReq => s.retractRequested
  | .passOut => s.lines.indication == .pass
  | .failOut => s.lines.indication == .fail
  | .busyOut => s.stroke.state.busy

/-- The level an output line is driven at; none for an input line, and for every line while the
part is held in power-on reset, when all lines are inputs (09 R164, R173). -/
def State.lineDrive (s : State) (l : Line) : Option Level :=
  if l.function.isInput then none
  else if s.lineActive l then some l.active else some (otherLevel l.active)

/-- The level READ_LINES gives (09 R169): the driven level of an output, the filtered level of an
input. -/
def State.lineLevel (s : State) (l : Line) : Level := (s.lineDrive l).getD l.filtered

/-! ### Counts and map loads -/

/-- Enabled segments, masked ones included, whose status is not OK (01 R12). -/
def Acq.notOk (a : Acq) : Nat := a.segs.countP fun g => g.enabled && g.status != .ok

/-- A segment is usable: enabled, not masked, status OK (01 R12). -/
def Segment.usable (g : Segment) : Bool := g.enabled && !g.masked && g.status == .ok

/-- The number of active-map records that name a segment (06 R103). -/
def MapUnit.load (m : MapUnit) (segment : Nat) : Nat :=
  m.active.countP fun p => p.segment == segment

/-- The class record of a number, if it is defined (06 R117). -/
def MapUnit.classAt (m : MapUnit) (n : Nat) : Option WindowClass := (m.classes.getD n none)

/-- The last station latched, h − 1, or none when h is 0 (03 R53, 04 R79). -/
def Pos.lastStation (p : Pos) : Option Nat := if p.high = 0 then none else some (p.high - 1)

/-- L of the stroke that ends: none when the stroke never entered CAPTURE (04 R72, 07 R123). -/
def State.lastCaptured (s : State) : Option Nat :=
  if s.stroke.captured then s.pos.lastStation else none

/-- The bit rate of the straps (10 R176). -/
def Link.bitRate (l : Link) : Nat :=
  match l.baud1, l.baud0 with
  | .low, .low => 115200
  | .low, .high => 460800
  | .high, .low => 921600
  | .high, .high => 1843200

end Sys2Proof.Machine
end

