-- ==== Sys2Proof/Machine/Verdict.lean ====
section
/-! DEFINITION. The verdict engine's judgement (07 R129 to R144): cohorts, clusters, baseline,
peak, share, verdicts and the stroke summary, as functions of the active map, the window classes,
the profile and the evaluation inputs. -/

namespace Sys2Proof.Machine

/-! ### Cohorts and windows -/

/-- A cohort: the active-map records that share one segment and one engage station (06 R115), with
its class and the number of its pins. -/
structure Cohort where
  segment : Nat
  engage : Nat
  cls : WindowClass
  pins : Nat
  deriving DecidableEq, Repr

/-- The class an undefined record reads as. A committed map names defined classes only, and a
defined class stays defined, so no map record reads it (log 30). -/
def WindowClass.blank : WindowClass :=
  { absent := 0, low := 0, high := 0, lead := 0, span := 1, depth := 1 }

/-- The class of a map record as it stands in the class table (07 R129). -/
def MapUnit.classOf (m : MapUnit) (p : PinRecord) : WindowClass :=
  (m.classAt p.cls).getD WindowClass.blank

/-- The cohorts of a sorted map, in map order (06 R115). -/
def cohortsOf (m : MapUnit) : List PinRecord → List Cohort
  | [] => []
  | p :: rest =>
    match cohortsOf m rest with
    | c :: cs =>
      if c.segment = p.segment ∧ c.engage = p.engage then { c with pins := c.pins + 1 } :: cs
      else { segment := p.segment, engage := p.engage, cls := m.classOf p, pins := 1 } :: c :: cs
    | [] => [{ segment := p.segment, engage := p.engage, cls := m.classOf p, pins := 1 }]

/-- The first station of the peak window, e − t (07 R129). -/
def peakStart (engage : Nat) (c : WindowClass) : Int := (engage : Int) - c.lead

/-- The last station of the peak window, e + t + w − 1 (07 R129). -/
def peakEnd (engage : Nat) (c : WindowClass) : Int := (engage : Int) + c.lead + c.span - 1

/-- The first station of the baseline window, e − t − b (07 R129). -/
def baseStart (engage : Nat) (c : WindowClass) : Int := (engage : Int) - c.lead - c.depth

/-- The last station of the baseline window, e − t − 1 (07 R129). -/
def baseEnd (engage : Nat) (c : WindowClass) : Int := (engage : Int) - c.lead - 1

/-- A segment is in the usable set taken at the start (07 R123). -/
def EvalInputs.usableAt (i : EvalInputs) (segment : Nat) : Bool := i.usable.getD segment false

/-- A peak window that begins at `start` is reached: it begins at or before the last captured
station, and there is one (07 R131). -/
def EvalInputs.reaches (i : EvalInputs) (start : Int) : Bool :=
  match i.last with
  | some l => start ≤ (l : Int)
  | none => false

/-- A cohort takes part in clustering (07 R130, R131). -/
def EvalInputs.judges (i : EvalInputs) (c : Cohort) : Bool :=
  i.usableAt c.segment && i.reaches (peakStart c.engage c.cls)

/-! ### Clusters (07 R132, R133) -/

/-- A cohort opens a cluster with its own windows (07 R132, R133). -/
def Cluster.opened (c : Cohort) : Cluster :=
  { segment := c.segment, members := [c.engage], size := c.pins
    baseLo := baseStart c.engage c.cls, baseHi := baseEnd c.engage c.cls
    peakLo := peakStart c.engage c.cls, peakHi := peakEnd c.engage c.cls }

/-- A cohort joins a cluster: its pins are added and the peak-window end is raised (07 R133). -/
def Cluster.join (k : Cluster) (c : Cohort) : Cluster :=
  { k with members := c.engage :: k.members, size := k.size + c.pins
           peakHi := max k.peakHi (peakEnd c.engage c.cls) }

/-- A cohort joins the current cluster when it lies on its segment and its own baseline window
starts no later than the cluster's peak-window end (07 R132). -/
def Cluster.admits (k : Cluster) (c : Cohort) : Bool :=
  k.segment == c.segment && baseStart c.engage c.cls ≤ k.peakHi

/-- The clusters of the judged cohorts; `current` is the current cluster. -/
def clustersFrom (current : Cluster) : List Cohort → List Cluster
  | [] => [current]
  | c :: rest =>
    if current.admits c then clustersFrom (current.join c) rest
    else current :: clustersFrom (Cluster.opened c) rest

/-- The clusters of a list of judged cohorts in map order (07 R132). -/
def clustersOf : List Cohort → List Cluster
  | [] => []
  | c :: rest => clustersFrom (Cluster.opened c) rest

/-! ### Baseline, peak and share (07 R134 to R137) -/

/-- The station records of the window `lo` to `hi`, clipped to the captured stations held in
`records` (indices 0 to L). -/
def windowOf (records : List Station) (lo hi : Int) : List Station :=
  (records.drop lo.toNat).take (hi - max lo 0 + 1).toNat

/-- The force of a segment in a station record. -/
def Station.force (r : Station) (segment : Nat) : Int := r.forces.getD segment 0

/-- The greatest of a list of forces; 0 for the empty list. -/
def greatest : List Int → Int
  | [] => 0
  | x :: rest => rest.foldl max x

/-- The mean of a list of forces rounded to nearest; 0 for the empty list (07 R134). -/
def meanForce (forces : List Int) : Int :=
  if forces.isEmpty then 0 else roundDiv forces.sum forces.length

/-- The judgement of a cluster: the share of each of its pins, and its flags. -/
structure Judgement where
  share : Int
  flags : Flags
  deriving DecidableEq, Repr

/-- The share of a step over `n` pins (07 R136). -/
def shareOf (step : Int) (n : Nat) : Int := clamp (-32768) 32767 (roundDiv step n)

/-- Baseline, peak, share and flags of a cluster, from the captured records of indices 0 to L
(07 R134 to R137). -/
def judge (records : List Station) (last : Nat) (k : Cluster) : Judgement :=
  let base := windowOf records k.baseLo (min k.baseHi last)
  let peak := windowOf records k.peakLo (min k.peakHi last)
  let b := meanForce (base.map fun r => r.force k.segment)
  let p := greatest (peak.map fun r => r.force k.segment)
  { share := shareOf (p - b) k.size
    flags :=
      { baseClipped := k.baseLo < 0
        truncated := (last : Int) < k.peakHi
        sparse := peak.length < 2 * peak.countP (fun r => r.stale)
        sat := peak.any fun r => r.sats.getD k.segment false } }

/-! ### Verdicts (07 R138) -/

/-- The verdict of a pin of a cluster by its own class, the first case that applies (07 R138). -/
def verdictOf (c : WindowClass) (j : Judgement) : Verdict :=
  if j.flags.sat then .high
  else if (c.high : Int) < j.share then .high
  else if j.share < c.absent then .absent
  else if j.share < c.low then .low
  else .pass

/-- The result record of a pin that is not judged: no share, size or flags (07 R130, R131). -/
def ResultRecord.unjudged (p : PinRecord) (v : Verdict) : ResultRecord :=
  { pin := p.pin, segment := p.segment, engage := p.engage, verdict := v, share := none,
    size := none, flags := Flags.clear }

/-- The cluster a pin's cohort belongs to. -/
def clusterFor (clusters : List Cluster) (p : PinRecord) : Option Cluster :=
  clusters.find? fun k => k.segment == p.segment && k.members.contains p.engage

/-- The result record of one active-map record (07 R130, R131, R138, R139). -/
def resultFor (m : MapUnit) (i : EvalInputs) (records : List Station) (clusters : List Cluster)
    (p : PinRecord) : ResultRecord :=
  if !i.usableAt p.segment then ResultRecord.unjudged p .unverified
  else
    match i.last, clusterFor clusters p with
    | some l, some k =>
      if i.reaches (peakStart p.engage (m.classOf p)) then
        let j := judge records l k
        { pin := p.pin, segment := p.segment, engage := p.engage
          verdict := verdictOf (m.classOf p) j
          share := some j.share, size := some k.size, flags := j.flags }
      else ResultRecord.unjudged p .notReached
    | _, _ => ResultRecord.unjudged p .notReached

/-- The station records of indices 0 to L, and no others (07 R123). -/
def capturedRecords (i : EvalInputs) (profile : Profile) : List Station :=
  match i.last with
  | some l => profile.records.take (l + 1)
  | none => []

/-- The clusters of the active map: those of the cohorts that are judged (07 R130 to R132). -/
def evaluateClusters (m : MapUnit) (i : EvalInputs) : List Cluster :=
  clustersOf ((cohortsOf m m.active).filter i.judges)

/-- The result records, one per active-map record in map order (07 R139). -/
def evaluateResults (m : MapUnit) (profile : Profile) (i : EvalInputs) : List ResultRecord :=
  m.active.map (resultFor m i (capturedRecords i profile) (evaluateClusters m i))

/-! ### The working table (07 R122, R124) -/

/-- The engine works through one more segment of the active map in map order: its clusters come into
hand and its result records join the table (07 R124; log 22). -/
def WorkTable.advance (m : MapUnit) (profile : Profile) (i : EvalInputs) (w : WorkTable) :
    WorkTable :=
  match (evaluateResults m profile i).drop w.records.length with
  | [] => w
  | r :: rest =>
    { records := w.records ++ r :: rest.takeWhile fun x => x.segment == r.segment
      clusters := (evaluateClusters m i).filter fun k => k.segment == r.segment }

/-- The working table's records at the completion: those formed so far, and those of the records of
the active map that were left (07 R124). -/
def WorkTable.finish (m : MapUnit) (profile : Profile) (i : EvalInputs) (w : WorkTable) :
    List ResultRecord :=
  w.records ++ (evaluateResults m profile i).drop w.records.length

/-! ### The stroke summary (07 R140 to R144) -/

/-- How many records carry a verdict (07 R142). -/
def countVerdict (rs : List ResultRecord) (v : Verdict) : Nat :=
  rs.countP fun r => r.verdict == v

/-- The six verdict counts (07 R142). -/
def verdictCounts (rs : List ResultRecord) : VerdictCounts :=
  { pass := countVerdict rs .pass, low := countVerdict rs .low, high := countVerdict rs .high
    absent := countVerdict rs .absent, notReached := countVerdict rs .notReached
    unverified := countVerdict rs .unverified }

/-- The greatest station total and the lowest-numbered station that holds it (07 R141). -/
def peakTotal : List Station → Option (Int × Nat)
  | [] => none
  | r :: rest =>
    some (rest.foldl (fun best x => if best.1 < x.total then (x.total, x.index) else best)
      (r.total, r.index))

/-- The stroke work in mJ: the sum of total times pitch over 10000, rounded and clamped
(07 R143). -/
def strokeWork (records : List Station) (pitch : Nat) : Nat :=
  (clamp 0 4294967295 (roundDiv ((records.map fun r => r.total).sum * pitch) 10000)).toNat

/-- The stroke result (07 R144). -/
def strokeResult (i : EvalInputs) (c : VerdictCounts) : StrokeResult :=
  if i.outcome = .seatedOk ∧ i.secondary = none ∧
      c.low = 0 ∧ c.high = 0 ∧ c.absent = 0 ∧ c.notReached = 0 then
    if c.unverified = 0 then .pass else .incomplete
  else .fail

/-- The stroke summary (07 R140). -/
def evaluateSummary (results : List ResultRecord) (profile : Profile) (i : EvalInputs) : Summary :=
  let counts := verdictCounts results
  let records := capturedRecords i profile
  { number := i.number, outcome := i.outcome, secondary := i.secondary
    secondaryCount := i.secondaryCount, trip := i.trip, seat := i.seat, last := i.last
    overtravel := i.overtravel, peak := peakTotal records, counts := counts
    work := strokeWork records i.pitch, result := strokeResult i counts }

end Sys2Proof.Machine
end

