-- ==== Sys2Proof/Machine/Wire.lean ====
section
/-! DEFINITION. What the link carries: codes, field widths, the CRC, frames, and the contents of
replies and reports (08 R161 to R163, 09 R174, 10 R177 to R190). -/

namespace Sys2Proof.Machine

/-! ### Fields (10 R178) -/

/-- A 1-byte unsigned field. -/
def u8 (n : Nat) : List Byte := [BitVec.ofNat 8 n]

/-- A 2-byte unsigned field. -/
def u16 (n : Nat) : List Byte := bytes2 (BitVec.ofNat 16 n)

/-- A 3-byte unsigned position parameter (within 0 to 500000, so its sign bit is clear). -/
def u24 (n : Nat) : List Byte := bytes3 (BitVec.ofNat 24 n)

/-- A 4-byte unsigned field. -/
def u32 (n : Nat) : List Byte := bytes4 (BitVec.ofNat 32 n)

/-- A 2-byte two's complement field. -/
def i16 (x : Int) : List Byte := bytes2 (BitVec.ofInt 16 x)

/-- A 3-byte two's complement field. -/
def i24 (x : Int) : List Byte := bytes3 (BitVec.ofInt 24 x)

/-- A 4-byte two's complement field. -/
def i32 (x : Int) : List Byte := bytes4 (BitVec.ofInt 32 x)

/-- A flag or a yes-or-no value: 1 or 0. -/
def bit (b : Bool) : Nat := if b then 1 else 0

/-- A station, 0xFFFF when none (08 section 8.5). -/
def stationField : Option Nat → List Byte
  | some n => u16 n
  | none => u16 0xFFFF

/-- A segment, 0xFF when none (08 section 8.5). -/
def segmentField : Option Nat → List Byte
  | some n => u8 n
  | none => u8 0xFF

/-! ### Codes -/

/-- Status codes (10 R183). -/
def Status.code : Status → Nat
  | .ok => 0
  | .busy => 1
  | .state => 2
  | .field => 3
  | .length => 4
  | .kind => 5
  | .notReady => 6
  | .notHome => 7
  | .full => 8
  | .noResults => 9
  | .noMaint => 10
  | .rail => 11
  | .notLatched => 12
  | .empty => 13
  | .dupPin => 14
  | .noClass => 15
  | .mixedCohort => 16
  | .cohortSize => 17
  | .segLoad => 18

/-- Severity codes (10 R179). -/
def Severity.code : Severity → Nat
  | .info => 0
  | .note => 1
  | .stroke => 2
  | .tool => 3

/-- Stroke state codes (10 R186). -/
def StrokeState.code : StrokeState → Nat
  | .disarmed => 0
  | .ready => 1
  | .approach => 2
  | .capture => 3
  | .hold => 4
  | .halted => 5
  | .retract => 6
  | .evaluate => 7
  | .complete => 8

/-- Halt cause codes (08 R163). -/
def HaltCause.code : HaltCause → Nat
  | .tripSegment => 2
  | .tripTotal => 3
  | .overrange => 4
  | .overtravel => 5
  | .stopReadback => 6
  | .externalStop => 7
  | .guardOpen => 8
  | .linkLost => 9
  | .encoderFault => 10
  | .aborted => 11
  | .noSeat => 12

/-- Outcome codes (08 R163). -/
def StrokeOutcome.code : StrokeOutcome → Nat
  | .none => 0
  | .seatedOk => 1
  | .halt c => c.code

/-- A secondary cause's code, 0 when empty (08 R163). -/
def secondaryCode : Option HaltCause → Nat
  | some c => c.code
  | none => 0

/-- The halt cause of the same name as a lockout cause (05 R96). -/
def LockoutCause.halt : LockoutCause → HaltCause
  | .overrange => .overrange
  | .overtravel => .overtravel
  | .stopReadback => .stopReadback

/-- A lockout cause's code, NONE as 0 (05 R98). -/
def lockoutCode : Option LockoutCause → Nat
  | some c => c.halt.code
  | none => 0

/-- Segment status codes (10 R186). -/
def SegStatus.code : SegStatus → Nat
  | .ok => 0
  | .unchecked => 1
  | .shuntLow => 2
  | .shuntHigh => 3
  | .opened => 4
  | .offsetLimit => 5

/-- Verdict codes (08 R163). -/
def Verdict.code : Verdict → Nat
  | .pass => 0
  | .low => 1
  | .high => 2
  | .absent => 3
  | .notReached => 4
  | .unverified => 5

/-- Stroke result codes (08 R163). -/
def StrokeResult.code : StrokeResult → Nat
  | .pass => 0
  | .incomplete => 1
  | .fail => 2

/-- Profile condition codes (08 R161). -/
def ProfileCondition.code : ProfileCondition → Nat
  | .empty => 0
  | .capturing => 1
  | .closed => 2

/-- Seating mode codes (04 R62). -/
def SeatingMode.code : SeatingMode → Nat
  | .force => 0
  | .position => 1
  | .either => 2

/-- Line function codes (09 R174). -/
def LineFunction.code : LineFunction → Nat
  | .generalIn => 0
  | .generalOut => 1
  | .home => 2
  | .guardInput => 3
  | .maint => 4
  | .retractReq => 5
  | .passOut => 6
  | .failOut => 7
  | .busyOut => 8

/-! ### The check and the frame (10 R177, R178) -/

/-- One bit of the CRC register: shift left, and subtract the generator when a one falls out. -/
def crcBit (c : BitVec 16) : BitVec 16 :=
  if c.msb then (c <<< 1) ^^^ 0x1021#16 else c <<< 1

/-- Feed one byte into the CRC, most significant bit first. -/
def crcByte (c : BitVec 16) (b : Byte) : BitVec 16 :=
  crcBit (crcBit (crcBit (crcBit (crcBit (crcBit (crcBit (crcBit
    (c ^^^ (b.setWidth 16 <<< 8)))))))))

/-- CRC-16, polynomial 0x1021, initial value 0xFFFF (10 R178). -/
def crc (bs : List Byte) : BitVec 16 := bs.foldl crcByte 0xFFFF#16

/-- The length byte of a frame: kind and payload together (10 R177). -/
def lengthByte (payload : List Byte) : Byte := BitVec.ofNat 8 (payload.length + 1)

/-- A whole frame: marker, length, kind, payload, check (10 R177). -/
def frameBytes (kind : Byte) (payload : List Byte) : List Byte :=
  let checked := lengthByte payload :: kind :: payload
  0x7E#8 :: checked ++ bytes2 (crc checked)

/-- A frame's kind is a request's (10 R179): 0x01 to 0x3F. -/
def isRequestKind (kind : Byte) : Bool := 0x01 ≤ kind.toNat && kind.toNat ≤ 0x3F

/-- The kind of the reply to a frame: its kind plus 0x80, or 0x80 when the frame is not a request
(10 R179, R181). -/
def replyKind (kind : Byte) : Byte := if isRequestKind kind then kind + 0x80#8 else 0x80#8

/-- The payload of a reply: status first (10 R179). -/
def Reply.payload (r : Reply) : List Byte := u8 r.status.code ++ r.detail

/-- The payload of a report: severity first (10 R179). -/
def Report.payload (r : Report) : List Byte := u8 r.severity.code ++ r.body

/-- The bytes a frame in transmission puts on TXD. -/
def OutFrame.bytes : OutFrame → List Byte
  | .reply r => frameBytes r.kind r.payload
  | .report r => frameBytes r.kind r.payload

/-! ### Characters (10 R176) -/

/-- The level that carries a bit. -/
def bitLevel (b : Bool) : Level := if b then .high else .low

/-- A character, bit time by bit time: a start bit low, the 8 data bits least significant first, no
parity, and a stop bit high (10 R176). -/
def character (b : Byte) : List Level :=
  [.low] ++ (List.range 8).map (fun i => bitLevel (b.getLsbD i)) ++ [.high]

/-- The byte of the ten levels of a character taken on RXD at the middle of their bit times; a
character whose stop bit is low is a framing-error character and no byte (10 R176). A BYTE_TAKEN
carries such a byte, and no command stands for a framing-error character, which changes nothing
(log 42). -/
def characterByte : List Level → Option Byte
  | [.low, b0, b1, b2, b3, b4, b5, b6, b7, .high] =>
    some (BitVec.ofBoolListLE ([b0, b1, b2, b3, b4, b5, b6, b7].map fun l => l == .high))
  | _ => none

/-- The levels of a frame on TXD, its characters back to back (10 R176, R177). -/
def OutFrame.levels (f : OutFrame) : List Level := f.bytes.flatMap character

/-- The level of TXD, a number of bit times after the start of the frame in transmission: the frame's
levels, and high after them and while no frame is sent (10 R176). -/
def Link.txd (l : Link) (bitTime : Nat) : Level :=
  match l.sending with
  | some f => f.levels.getD bitTime .high
  | none => .high

/-! ### Reports (10 R179, R186) -/

/-- STROKE_EVENT: new state, cause, stroke number, last station (04 R79). -/
def strokeEvent (severity : Severity) (state : StrokeState) (cause : Nat) (number : BitVec 16)
    (last : Option Nat) : Report :=
  { kind := 0x40, severity := severity
    body := u8 state.code ++ u8 cause ++ bytes2 number ++ stationField last }

/-- The groups finished, bit g for group g (10 R186). No group has a number above 3 (02 R25), so bits 4
to 7 are 0. -/
def groupBits (groups : List Nat) : Nat :=
  bit (groups.contains 0) + 2 * bit (groups.contains 1) + 4 * bit (groups.contains 2) +
    8 * bit (groups.contains 3)

/-- CAL_DONE of a TARE: clamped and OPEN counts (02 R35). -/
def calDoneTare (abandoned : Bool) (clamped opened : Nat) : Report :=
  { kind := 0x41, severity := .info
    body := u8 1 ++ u8 (bit abandoned) ++ u8 0 ++ u8 clamped ++ u8 0 ++ u8 0 ++ u8 0 ++
      u8 opened ++ u8 0 }

/-- CAL_DONE of a SHUNT_CHECK: the groups finished and the tallies (02 R35). -/
def calDoneShunt (abandoned : Bool) (j : ShuntJob) : Report :=
  { kind := 0x41, severity := .info
    body := u8 2 ++ u8 (bit abandoned) ++ u8 (groupBits j.finished) ++ u8 0 ++ u8 j.tally.ok ++
      u8 j.tally.shuntLow ++ u8 j.tally.shuntHigh ++ u8 j.tally.opened ++
      u8 j.tally.offsetLimit }

/-- The six verdict counts in the order of the summary (08 R162). -/
def VerdictCounts.bytes (c : VerdictCounts) : List Byte :=
  u16 c.pass ++ u16 c.low ++ u16 c.high ++ u16 c.absent ++ u16 c.notReached ++ u16 c.unverified

/-- RESULT_READY: stroke number, stroke result, verdict counts (07 R145). -/
def resultReady (m : Summary) : Report :=
  { kind := 0x42, severity := .info
    body := bytes2 m.number ++ u8 m.result.code ++ m.counts.bytes }

/-- SEGMENT_EVENT: segment, new status OPEN, stroke number (01 R10). -/
def segmentEvent (segment : Nat) (number : BitVec 16) : Report :=
  { kind := 0x43, severity := .note
    body := u8 segment ++ u8 SegStatus.opened.code ++ bytes2 number }

/-- What an ENCODER_EVENT reports (03 R43, 10 R186). -/
inductive EncoderEvent where
  | transition
  | limit
  | slip
  deriving DecidableEq, Repr

/-- The kind byte of an ENCODER_EVENT: 0 FAULT, 1 SLIP. -/
def EncoderEvent.kindCode : EncoderEvent → Nat
  | .transition | .limit => 0
  | .slip => 1

/-- The reason byte of an ENCODER_EVENT: 0 none, 1 TRANSITION, 2 LIMIT. -/
def EncoderEvent.reasonCode : EncoderEvent → Nat
  | .slip => 0
  | .transition => 1
  | .limit => 2

/-- ENCODER_EVENT: kind, reason, position, stroke state, stroke number (03 R43). -/
def encoderEvent (severity : Severity) (e : EncoderEvent) (position : Int) (state : StrokeState)
    (number : BitVec 16) : Report :=
  { kind := 0x44, severity := severity
    body := u8 e.kindCode ++ u8 e.reasonCode ++ i24 position ++ u8 state.code ++ bytes2 number }

/-- LINK_QUIET: stroke number and watchdog interval (10 R186). -/
def linkQuiet (number : BitVec 16) (interval : Nat) : Report :=
  { kind := 0x45, severity := .note, body := bytes2 number ++ u16 interval }

/-- LOCKOUT: cause, stroke number, segment, station (05 R96). -/
def lockoutReport (k : Lockout) : Report :=
  { kind := 0x46, severity := .tool
    body := u8 (lockoutCode k.cause) ++ bytes2 k.number ++ segmentField k.segment ++
      stationField k.station }

/-- RESTART: prior stroke state and stroke number (04 R80). -/
def restartReport (prior : StrokeState) (number : BitVec 16) : Report :=
  { kind := 0x47, severity := .tool, body := u8 prior.code ++ bytes2 number }

/-! ### What replies carry after an OK -/

/-- PING: family code, part number, silicon revision (10 R190). The letter is a free value
(log 9). -/
def pingBody : List Byte := u8 0x0C ++ u16 640 ++ u8 (65 + Config.revision.val)

/-- The flags of STATUS, bit 0 to bit 8 (10 R190). R190 names no other bit of the two bytes: bits 9 to
15 are sent as 0 (DESIGN CHOICE, log 43). -/
def statusFlags (s : State) : Nat :=
  bit s.pos.referenced + 2 * bit s.cal.tareValid + 4 * bit s.map.valid +
    8 * bit s.stroke.paramsValid + 16 * bit s.guard.lockout.latched + 32 * bit s.home +
    64 * bit s.guardOk + 128 * bit (s.guard.sensed == .high) + 256 * bit s.permit

/-- The running operation of STATUS: 0 none, 1 tare, 2 shunt, 3 evaluate (02 R23, 10 R190). -/
def operationCode (s : State) : Nat :=
  match s.engine.run with
  | some _ => 3
  | none =>
    match s.cal.run with
    | none => 0
    | some r =>
      match r.job with
      | .tare => 1
      | .shunt _ => 2

/-- STATUS (10 R190). -/
def statusBody (s : State) : List Byte :=
  u8 s.stroke.state.code ++ u8 s.stroke.outcome.code ++ bytes2 s.stroke.number ++
    i24 s.pos.counter ++ u16 (statusFlags s) ++ u8 (operationCode s) ++
    i32 s.acq.latest.total ++ u8 s.acq.notOk

/-- COUNTERS_READ: the four link counters and the stale counter (10 R189). -/
def countersBody (l : Link) (stale : Nat) : List Byte :=
  u16 l.crcErrors ++ u16 l.timeouts ++ u16 l.overruns ++ u16 l.lost ++ u16 stale

/-- GET_SEGMENT: the number and the seven fields (01 R18; the offset's two bytes: log 17). -/
def segmentBody (n : Nat) (g : Segment) : List Byte :=
  u8 n ++ u8 (bit g.enabled) ++ u8 (bit g.masked) ++ u16 g.gain ++ i16 g.offset ++
    u16 g.shuntRef ++ u16 g.tripLimit ++ u8 g.status.code

/-- One segment's entry of SNAPSHOT: force, SAT in bit 0, SETTLING in bit 1 (01 R19). The six bits R19
does not name are sent as 0 (DESIGN CHOICE, log 43). -/
def Sample.bytes (x : Sample) : List Byte :=
  i16 x.force ++ u8 (bit x.sat + 2 * bit x.settling)

/-- SNAPSHOT: 64 entries and the total (01 R19). -/
def snapshotBody (set : SampleSet) : List Byte :=
  set.samples.flatMap Sample.bytes ++ i32 set.total

/-- The seventeen fields of GET_STROKE, in order of index (04 R61, R63). -/
def paramsBody (p : Params) : List Byte :=
  u24 p.homeZone ++ u24 p.captureStart ++ u24 p.endPosition ++ u8 p.pitch ++
    u16 p.maxStations ++ u8 p.mode.code ++ u8 p.span ++ u32 p.rise ++ u32 p.floor ++
    u16 p.earliest ++ u24 p.seatPosition ++ u16 p.dwell ++ u8 p.allowance ++
    u8 p.segPersistence ++ u32 p.totalLimit ++ u8 p.totalPersistence ++ u8 p.tolerance

/-- LOCKOUT_READ: the six fields (05 R98). -/
def lockoutBody (k : Lockout) : List Byte :=
  u8 (bit k.latched) ++ u8 (lockoutCode k.cause) ++ bytes2 k.number ++
    segmentField k.segment ++ stationField k.station ++ u8 k.repeats

/-- One pin record of MAP_READ (06 R114). -/
def PinRecord.bytes (p : PinRecord) : List Byte :=
  u16 p.pin ++ u8 p.segment ++ u16 p.engage ++ u8 p.cls

/-- MAP_READ: record count, map-valid flag, records (06 R114). -/
def mapBody (m : MapUnit) (first count : Nat) : List Byte :=
  u16 m.active.length ++ u8 (bit m.valid) ++
    ((m.active.drop first).take count).flatMap PinRecord.bytes

/-- GET_CLASS: the number, the indication, and the six values of a defined record (06 R120). -/
def classBody (n : Nat) : Option WindowClass → List Byte
  | none => u8 n ++ u8 0
  | some c => u8 n ++ u8 1 ++ u16 c.absent ++ u16 c.low ++ u16 c.high ++ u8 c.lead ++
      u8 c.span ++ u8 c.depth

/-- An entry of PROFILE_READ for one segment (08 R152, R161). Bits 2 to 7 of the flags, which R161
does not name, are sent as 0 (DESIGN CHOICE, log 43). -/
def Station.segmentEntry (segment : Nat) (r : Station) : List Byte :=
  i16 (r.forces.getD segment 0) ++ u8 (bit (r.sats.getD segment false) + 2 * bit r.stale)

/-- An entry of PROFILE_READ for the station totals (08 R153, R161; bits 2 to 7 of the flags: DESIGN
CHOICE, log 43). -/
def Station.totalEntry (r : Station) : List Byte :=
  i32 r.total ++ i24 r.position ++ u8 (bit (r.sats.any id) + 2 * bit r.stale)

/-- PROFILE_READ (08 R151, R161): the window cut to the records held, and to 30 entries for the
totals. -/
def profileBody (p : Profile) (selector first count : Nat) : List Byte :=
  let window := (p.records.drop first).take (if selector = 64 then min count 30 else count)
  u8 selector ++ u8 p.condition.code ++ bytes2 p.number ++ u16 p.records.length ++
    u8 window.length ++
    window.flatMap fun r => if selector = 64 then r.totalEntry else r.segmentEntry selector

/-- The flags of a result record in bits 4 to 7 (08 R162). Bit 3, between verdict and flags, is sent
as 0 (DESIGN CHOICE, log 43). -/
def Flags.code (f : Flags) : Nat :=
  16 * bit f.baseClipped + 32 * bit f.truncated + 64 * bit f.sparse + 128 * bit f.sat

/-- A result record, 10 bytes, absent share and size as 0 (08 R157, R162). -/
def ResultRecord.bytes (r : ResultRecord) : List Byte :=
  u16 r.pin ++ u8 r.segment ++ u16 r.engage ++ u8 (r.verdict.code + r.flags.code) ++
    i16 (r.share.getD 0) ++ u16 (r.size.getD 0)

/-- RESULT_READ (08 R156, R162). -/
def resultBody (number : BitVec 16) (results : List ResultRecord) (first count : Nat) :
    List Byte :=
  let window := (results.drop first).take count
  bytes2 number ++ u16 results.length ++ u8 window.length ++ window.flatMap ResultRecord.bytes

/-- The trip detail of a summary: kind, segment, force (08 R158, R162). -/
def tripField : Option TripDetail → List Byte
  | none => u8 0 ++ u8 0xFF ++ i32 0
  | some t =>
    match t.segment with
    | some n => u8 1 ++ u8 n ++ i32 t.force
    | none => u8 2 ++ u8 0xFF ++ i32 t.force

/-- RESULT_SUMMARY (08 R158, R162). -/
def summaryBody (m : Summary) : List Byte :=
  bytes2 m.number ++ u8 m.outcome.code ++ u8 (secondaryCode m.secondary) ++
    u8 m.secondaryCount ++ tripField m.trip ++ stationField m.seat ++ stationField m.last ++
    u16 m.overtravel ++
    (match m.peak with
      | some (total, station) => i32 total ++ u16 station
      | none => i32 0 ++ u16 0xFFFF) ++
    m.counts.bytes ++ u32 m.work ++ u8 m.result.code

/-- A line's entry of READ_LINES: function code, then active level, level, state, stored value in
bits 0 to 3 (09 R169, R174). Bits 4 to 7, which the table of R174 does not name, are sent as 0 (DESIGN
CHOICE, log 43). -/
def lineEntry (s : State) (l : Line) : List Byte :=
  u8 l.function.code ++
    u8 (bit (l.active == .high) + 2 * bit (s.lineLevel l == .high) + 4 * bit (s.lineActive l) +
      8 * bit l.stored)

/-- READ_LINES: the eight lines in order (09 R169). -/
def linesBody (s : State) : List Byte := s.lines.lines.flatMap (lineEntry s)

end Sys2Proof.Machine
end

