-- ==== Sys2Proof/Machine/Ops.lean ====
section
/-! DEFINITION. The operations the commands share: posting reports, the stop-reason set, halt
causes, lockouts, the ends and starts of strokes, home, station latching, the calibration unit's
ends, and the tool reset. Each is written from the rule its docstring cites. -/

namespace Sys2Proof.Machine

/-! ### Report queue (10 R185) -/

/-- STROKE and TOOL reports may displace an INFO or NOTE report (10 R185). -/
def Severity.urgent : Severity → Bool
  | .stroke | .tool => true
  | .info | .note => false

/-- A report that a full queue gives up first: severity INFO or NOTE. -/
def Report.minor (r : Report) : Bool := !r.severity.urgent

/-- Post a report (10 R185). -/
def Link.post (r : Report) (l : Link) : Link :=
  if l.reports.length < Config.reportPlaces then { l with reports := l.reports ++ [r] }
  else if r.severity.urgent && l.reports.any Report.minor then
    { l with reports := l.reports.eraseP Report.minor ++ [r], lost := satSucc 65535 l.lost }
  else { l with lost := satSucc 65535 l.lost }

/-- Post a report into the report queue (10 R185). -/
def post (r : Report) (s : State) : State := s.onLink (Link.post r)

/-- Post a STROKE_EVENT of the state as it stands (04 R79). -/
def postStroke (severity : Severity) (cause : Nat) (s : State) : State :=
  post (strokeEvent severity s.stroke.state cause s.stroke.number s.pos.lastStation) s

/-! ### Stop-reason set (05 R83, R85, R92) -/

/-- Add a reason. When the set was empty the readback timer starts if the line reads high (05 R85),
and overtravel counting begins in APPROACH, CAPTURE, HOLD and HALTED (05 R92). -/
def addReason (r : StopReason) (s : State) : State :=
  let starts := s.guard.reasons.isEmpty
  s.onGuard fun g =>
    { g with
      reasons := g.reasons.add r
      readback := if starts && g.sensed == .high then .running else g.readback
      counting := g.counting || (starts && s.stroke.state.countsStops) }

/-- Remove a reason; the readback timer stops when the set becomes empty (05 R83, R85). -/
def removeReason (r : StopReason) (s : State) : State :=
  s.onGuard fun g =>
    { g with
      reasons := g.reasons.remove r
      readback := if (g.reasons.remove r).isEmpty then .stopped else g.readback }

/-! ### Capture, results, watchdog -/

/-- Close capture if it is open: the profile condition becomes CLOSED and the quiet timer, which
measures time while capture is open, stops (04 R71, 08 R149; log 25). -/
def closeCapture (s : State) : State :=
  if s.stroke.captureOpen then
    (s.onStroke fun k => { k with captureOpen := false, quiet := .stopped }).onProfile
      fun p => { p with condition := .closed }
  else s

/-- Clear the results-valid flag; table and summary are discarded with it (07 R146). -/
def invalidateResults (s : State) : State :=
  s.onEngine fun e => { e with results := [], summary := none, valid := false }

/-- Stop the watchdog timer (10 R187). -/
def stopWatchdog (s : State) : State := s.onLink fun l => { l with watchdog := none }

/-- Set the stroke state. -/
def enterState (state : StrokeState) (s : State) : State :=
  s.onStroke fun k => { k with state := state }

/-- The entry into DISARMED from READY (04 R65, R67, R75): the watchdog stops (10 R187). -/
def disarm (s : State) : State := stopWatchdog (enterState .disarmed s)

/-! ### End of the stroke (04 R77, 07 R123) -/

/-- The evaluation inputs as they stand (07 R123). -/
def evalInputs (s : State) : EvalInputs :=
  { last := s.lastCaptured
    pitch := (s.pos.copies.map StationCopies.pitch).getD 0
    usable := s.acq.segs.map Segment.usable
    number := s.stroke.number, outcome := s.stroke.outcome, secondary := s.stroke.secondary
    secondaryCount := s.stroke.secondaryCount, seat := s.stroke.seat
    trip := s.guard.trip, overtravel := s.guard.overtravel }

/-- The end of the stroke: STROKE is removed, capture closed, the engine started, and EVALUATE
entered (04 R77, 07 R123). -/
def endStroke (s : State) : State :=
  let s := closeCapture (removeReason .stroke s)
  let s := s.onEngine fun e => { e with run := some (evalInputs s), work := WorkTable.empty }
  let s := enterState .evaluate s
  postStroke .info s.stroke.outcome.code s

/-! ### Halt causes (04 R72 to R74) -/

/-- Record a halt cause that arrives after the outcome (04 R73, R74). -/
def recordSecondary (c : HaltCause) (k : Stroke) : Stroke :=
  match k.secondary with
  | none => { k with secondary := some c }
  | some _ => { k with secondaryCount := satSucc 255 k.secondaryCount }

/-- What follows every entry into HALTED: capture closes when the quiet timer has already expired
(04 R71), and the stroke ends there when the ram is home (04 R72, R77). -/
def haltedEntry (s : State) : State :=
  let s := if s.stroke.quiet == .expired then closeCapture s else s
  if s.home then endStroke s else s

/-- Enter HALTED with a STROKE_EVENT giving the cause (04 R72, R73). -/
def enterHalted (c : HaltCause) (s : State) : State :=
  haltedEntry (postStroke .stroke c.code (stopWatchdog (enterState .halted s)))

/-- The stroke controller takes a halt cause by the state it finds (04 R72 to R74). -/
def halt (c : HaltCause) (s : State) : State :=
  match s.stroke.state with
  | .approach | .capture =>
    enterHalted c (addReason .stroke (s.onStroke fun k => { k with outcome := .halt c }))
  | .hold => enterHalted c (s.onStroke fun k => { recordSecondary c k with dwell := none })
  | .halted | .retract => s.onStroke (recordSecondary c)
  | .disarmed | .ready | .evaluate | .complete => s

/-! ### Lockout (05 R95 to R97, 04 R67) -/

/-- The record a lockout cause writes (05 R96). -/
def newLockout (cause : LockoutCause) (segment : Option Nat) (s : State) : Lockout :=
  { latched := true, cause := some cause, number := s.stroke.number, segment := segment
    station := if s.stroke.captureOpen then s.pos.lastStation else none, repeats := 0 }

/-- A lockout latched in READY disarms the head (04 R67); its STROKE_EVENT enters the report queue
before the LOCKOUT report (log 37). -/
def lockoutInReady (cause : LockoutCause) (s : State) : State :=
  if s.stroke.state = .ready then postStroke .info cause.halt.code (disarm s) else s

/-- A lockout cause arrives: it latches a lockout over a cleared record (05 R96) or counts a repeat
(05 R97). The spec does not order the LOCKOUT report and the STROKE_EVENT of one event: in READY
STROKE_EVENT (DISARMED) enters the report queue first, in a stroke LOCKOUT goes before the
STROKE_EVENT (HALTED) of the halt cause (log 37). -/
def lockoutCause (cause : LockoutCause) (segment : Option Nat) (s : State) : State :=
  if s.guard.lockout.latched then
    s.onGuard fun g =>
      { g with lockout := { g.lockout with repeats := satSucc 255 g.lockout.repeats } }
  else
    let k := newLockout cause segment s
    post (lockoutReport k)
      (lockoutInReady cause (addReason .lockout (s.onGuard fun g => { g with lockout := k })))

/-! ### Order of things that fall together -/

/-- The six orders of three lists. -/
def permute3 {α : Type} (k : Fin 6) (a b c : List α) : List α :=
  match k with
  | 0 => a ++ b ++ c
  | 1 => a ++ c ++ b
  | 2 => b ++ a ++ c
  | 3 => b ++ c ++ a
  | 4 => c ++ a ++ b
  | 5 => c ++ b ++ a

/-- Two or more of three lists hold something, so that an order must be chosen. -/
def needsOrder {α : Type} (a b c : List α) : Bool :=
  (!a.isEmpty && !b.isEmpty) || (!a.isEmpty && !c.isEmpty) || (!b.isEmpty && !c.isEmpty)

/-- Three lists of things that fall together, in the order of the `n`-th free choice; the choice is
asked for only when two of the lists hold something (log 6, log 7). -/
def inFreeOrder {α : Type} (n : Nat) (a b c : List α) : List α :=
  if needsOrder a b c then permute3 (Config.order n) a b c else a ++ b ++ c

/-- Use up a free choice if the three lists needed one. -/
def tickIfOrdered {α : Type} (a b c : List α) (s : State) : State :=
  if needsOrder a b c then s.tickFree else s

/-- A list of one element when the condition holds. -/
def listIf {α : Type} (p : Bool) (x : α) : List α := if p then [x] else []

/-! ### Stroke start (04 R66, 03 R47, 05 R86, R87, R92, R94, 10 R187) -/

/-- The guard unit at the entry into APPROACH: counts and trip detail cleared (05 R87), overtravel
idle, or counting when the line already reads low (05 R92). -/
def guardApproach (g : Guard) : Guard :=
  { g with
    segPersist := List.replicate Config.segments 0, totalPersist := 0
    tripGiven := false, trip := none
    counting := g.sensed == .low, overtravel := 0, overtravelGiven := false }

/-- The watchdog at the entry into APPROACH (10 R187). -/
def watchdogApproach (l : Link) : Link :=
  if l.interval = 0 then { l with watchdog := none }
  else { l with watchdog := some l.interval, expiries := 0 }

/-- The halt causes given at the entry into APPROACH: EXTERNAL_STOP with the line already low
(05 R86), GUARD_OPEN with GUARD already not OK (05 R94), ENCODER_FAULT with the position
unreferenced and HOME not assigned (03 R47), in a free order. -/
def giveApproachCauses (s : State) : State :=
  let ext := listIf (s.guard.sensed == .low && s.guard.reasons.isEmpty) HaltCause.externalStop
  let grd := listIf (!s.guardOk) HaltCause.guardOpen
  let enc := listIf (!s.pos.referenced && !s.homeAssigned) HaltCause.encoderFault
  (inFreeOrder s.freeCount ext grd enc).foldl (fun t c => halt c t) (tickIfOrdered ext grd enc s)

/-- The stroke start (04 R66), with what the entry into APPROACH announces. -/
def strokeStart (s : State) : State :=
  let s := s.onStroke fun k =>
    { k with number := k.number + 1, outcome := .none, secondary := none, secondaryCount := 0
             seat := none, captured := false, state := .approach }
  let s := (invalidateResults s).onLines fun u => { u with indication := .none }
  let s := (s.onGuard guardApproach).onLink watchdogApproach
  giveApproachCauses (postStroke .info StrokeOutcome.none.code s)

/-! ### Calibration: abandonment and ends (02 R27 to R37) -/

/-- The operation becomes NONE, the accumulators are emptied and the switches open (02 R23). -/
def clearCal (s : State) : State :=
  s.onCal fun c => { c with run := none, switches := switchesOpen }

/-- The ram ceases to be home: a running operation is abandoned with CAL_DONE (02 R37). -/
def abandonCal (s : State) : State :=
  match s.cal.run with
  | none => s
  | some r =>
    match r.job with
    | .tare => post (calDoneTare true 0 0) (clearCal s)
    | .shunt j => post (calDoneShunt true j) (clearCal s)

/-- The sums of an operation that has taken no round. -/
def zeroSums : List Int := List.replicate Config.segments 0

/-- The rail-seen marks of an operation that has taken no round. -/
def noRails : List Bool := List.replicate Config.segments false

/-- The switches of one group closed, those of the others open. -/
def switchesFor (group : Nat) : List Bool := (List.range 4).map fun g => g == group

/-- The settle has ended: a waiting TARE begins to average, a waiting SHUNT_CHECK closes the first
group's switches (02 R27). -/
def settleEnd (s : State) : State :=
  s.onCal fun c =>
    match c.run with
    | none => c
    | some r =>
      if r.phase = .waitSettle then
        match r.job with
        | .tare => { c with run := some { r with phase := .average, rounds := 0 } }
        | .shunt j =>
          { c with run := some { r with phase := .shuntWait, rounds := 0 }
                   switches := match j.groups with
                     | g :: _ => switchesFor g
                     | [] => switchesOpen }
      else c

/-- The mean of sixteen raw codes or forces (02 R29, R33). -/
def meanOf16 (sum : Int) : Int := roundDiv sum 16

/-- The mean lies outside the range of an offset (02 R29). -/
def offsetOut (mean : Int) : Bool := mean < -16384 || 16383 < mean

/-- A participant's record after the tare (02 R29). -/
def tareSegment (mean : Int) (rail : Bool) (g : Segment) : Segment :=
  { g with
    offset := clamp (-16384) 16383 mean
    status := if rail then .opened else if offsetOut mean then .offsetLimit else g.status }

/-- The tare completes (02 R29). -/
def tareCompletion (s : State) : State :=
  match s.cal.run with
  | none => s
  | some r =>
    match r.job with
    | .shunt _ => s
    | .tare =>
      let mean (n : Nat) : Int := meanOf16 (r.sums.getD n 0)
      let rail (n : Nat) : Bool := r.rails.getD n false
      let clamped := r.participants.countP fun n => !rail n && offsetOut (mean n)
      let opened := r.participants.countP rail
      let s := s.onAcq fun a =>
        { a with segs := a.segs.mapIdx fun n g =>
            if r.participants.contains n then tareSegment (mean n) (rail n) g else g }
      post (calDoneTare false clamped opened)
        ((clearCal s).onCal fun c => { c with tareValid := true })

/-- After eight shunted rounds the group averages (02 R31). -/
def shuntWaitEnd (s : State) : State :=
  s.onCal fun c =>
    match c.run with
    | none => c
    | some r =>
      if r.phase = .shuntWait then { c with run := some { r with phase := .average, rounds := 0 } }
      else c

/-- The status a shunt check writes, by the first case that applies (02 R33). -/
def shuntStatus (g : Segment) (tolerance : Nat) (force : Int) (rail : Bool) : SegStatus :=
  let band : Int := (g.shuntRef * tolerance / 100 : Nat)
  if g.status = .offsetLimit then .offsetLimit
  else if g.shuntRef = 0 then .shuntLow
  else if rail then .opened
  else if force < g.shuntRef - band then .shuntLow
  else if g.shuntRef + band < force then .shuntHigh
  else .ok

/-- The tallies with the statuses just written added (02 R33). -/
def Tally.addAll (t : Tally) (written : List SegStatus) : Tally :=
  { ok := t.ok + written.count .ok
    shuntLow := t.shuntLow + written.count .shuntLow
    shuntHigh := t.shuntHigh + written.count .shuntHigh
    opened := t.opened + written.count .opened
    offsetLimit := t.offsetLimit + written.count .offsetLimit }

/-- The current group is judged, and the next group starts or the check completes (02 R31, R33,
R34). -/
def shuntGroupJudged (s : State) : State :=
  match s.cal.run with
  | none => s
  | some r =>
    match r.job with
    | .tare => s
    | .shunt j =>
      match j.groups with
      | [] => s
      | g :: rest =>
        let members := r.participants.filter fun n => n / 16 == g
        let verdict (n : Nat) (x : Segment) : SegStatus :=
          shuntStatus x j.tolerance (meanOf16 (r.sums.getD n 0)) (r.rails.getD n false)
        let written := members.map fun n => verdict n (s.acq.seg n)
        let job := { j with groups := rest, finished := j.finished ++ [g]
                            tally := j.tally.addAll written }
        let s := s.onAcq fun a =>
          { a with segs := a.segs.mapIdx fun n x =>
              if members.contains n then { x with status := verdict n x } else x }
        match rest with
        | [] => post (calDoneShunt false job) (clearCal s)
        | next :: _ =>
          s.onCal fun c =>
            { c with
              run := some { r with job := .shunt job, phase := .shuntWait, rounds := 0
                                   sums := zeroSums, rails := noRails }
              switches := switchesFor next }

/-! ### Home (04 R57, R58) -/

/-- The ram ceases to be home: a calibration operation is abandoned (02 R37), and in READY the
stroke starts (04 R66). -/
def homeLost (s : State) : State :=
  let s := abandonCal s
  if s.stroke.state = .ready then strokeStart s else s

/-- The ram reaches home: a reset hold is released (05 R101), and in HALTED or RETRACT the stroke
ends (04 R77). -/
def homeReached (s : State) : State :=
  let s := removeReason .resetHold s
  if s.stroke.state.returning then endStroke s else s

/-- An event of home has brought the part to `s`; `before` says whether the ram was home before it
(04 R57). -/
def homeChange (before : Bool) (s : State) : State :=
  if before && !s.home then homeLost s
  else if !before && s.home then homeReached s
  else s

/-- An event of GUARD has brought the part to `s`: going not-OK in APPROACH, CAPTURE or HOLD gives
GUARD_OPEN (05 R94). -/
def guardChange (before : Bool) (s : State) : State :=
  if before && !s.guardOk && s.stroke.state.guarded then halt .guardOpen s else s

/-! ### Dwell, seating and station latching (03 R48 to R51, 04 R68 to R70, R76, 05 R93) -/

/-- The expiry of the dwell in HOLD: RETRACT is entered and capture closed; with the ram home the
stroke ends there (04 R76). -/
def dwellExpired (s : State) : State :=
  let s := closeCapture (enterState .retract (s.onStroke fun k => { k with dwell := none }))
  let s := postStroke .info s.stroke.outcome.code s
  if s.home then endStroke s else s

/-- The stroke is seated at a station (04 R70); a dwell of 0 expires at the entry. -/
def seatAt (station : Nat) (s : State) : State :=
  let s := s.onStroke fun k => { k with outcome := .seatedOk, seat := some station }
  let s := addReason .stroke s
  let s := stopWatchdog (s.onStroke fun k =>
    { k with state := .hold, dwell := some k.params.dwell })
  let s := postStroke .info StrokeOutcome.seatedOk.code s
  let s := if s.stroke.quiet == .expired then closeCapture s else s
  if s.stroke.params.dwell = 0 then dwellExpired s else s

/-- Force seating is met at station `r` (04 R69). -/
def forceSeated (p : Params) (records : List Station) (r : Station) : Bool :=
  match records[r.index - p.span]? with
  | some before =>
    decide (p.span ≤ r.index) && decide (p.earliest ≤ r.index) &&
      decide ((p.rise : Int) ≤ r.total - before.total) && decide ((p.floor : Int) ≤ r.total)
  | none => false

/-- A seating check is met at station `r`, by the mode (04 R69). -/
def seated (p : Params) (records : List Station) (r : Station) : Bool :=
  match p.mode with
  | .force => forceSeated p records r
  | .position => decide ((p.seatPosition : Int) ≤ r.position)
  | .either => forceSeated p records r || decide ((p.seatPosition : Int) ≤ r.position)

/-- The checks of the stroke controller at a latch in CAPTURE (04 R69). -/
def examineLatch (r : Station) (s : State) : State :=
  let p := s.stroke.params
  if seated p s.profile.records r then seatAt r.index s
  else if decide ((p.endPosition : Int) ≤ r.position) || s.pos.high == p.maxStations then
    halt .noSeat s
  else s

/-- The guard unit counts a latch toward overtravel; a count that first exceeds the allowance makes
OVERTRAVEL due (05 R93). -/
def countOvertravel (s : State) : State :=
  if s.guard.counting then
    let n := satSucc 1024 s.guard.overtravel
    let s := s.onGuard fun g => { g with overtravel := n }
    if !s.guard.overtravelGiven && decide (s.stroke.params.allowance < n) then
      s.withDue (s.due ++ [.overtravel])
    else s
  else s

/-- The sample set a latch copies. None can have been published only where arming is impossible
(01 R5); the model then reads no sample (log 23). -/
def Acq.publishedSet (a : Acq) : SampleSet := a.published.getD { samples := [], total := 0 }

/-- What a latch copies from a segment's published sample: nothing from a segment that is disabled at
the latch, which gives force 0 and no SAT (03 R50, 08 R152). -/
def Segment.latched (g : Segment) (x : Sample) : Sample := if g.enabled then x else Sample.disabled

/-- The station record of a latch (03 R50, R51, 08 R152): STALE when no set has been published since
the previous latch, never for station 0. The total is the sum of the record's forces, also where a
segment was disabled after the publication (log 39). -/
def stationRecord (s : State) : Station :=
  let samples := List.zipWith Segment.latched s.acq.segs s.acq.publishedSet.samples
  { index := s.pos.high
    forces := samples.map Sample.force
    sats := samples.map Sample.sat
    stale := s.pos.high != 0 && !s.pos.roundSinceLatch
    total := (samples.map Sample.force).sum
    position := s.pos.counter }

/-- Latch station h (03 R49 to R51): the record is appended, h and the stale counter advance, the
guard unit counts, the quiet timer restarts, capture closes at the station limit, and in CAPTURE
the stroke controller makes its checks. -/
def latchStation (limit : Nat) (s : State) : State :=
  let r := stationRecord s
  let s := s.onProfile fun p => { p with records := p.records ++ [r] }
  let s := s.onPos fun p =>
    { p with high := p.high + 1, roundSinceLatch := false
             stale := if r.stale then satSucc 65535 p.stale else p.stale }
  let s := countOvertravel s
  let s := s.onStroke fun k => { k with quiet := .running }
  let s := if s.pos.high = limit then closeCapture s else s
  if s.stroke.state = .capture then examineLatch r s else s

/-- The latching test of a count while capture is open (03 R49). -/
def latchTest (s : State) : State :=
  match s.pos.copies with
  | none => s
  | some c =>
    if s.stroke.captureOpen && decide (s.pos.high < c.limit) &&
        decide ((c.start + s.pos.high * c.pitch : Nat) ≤ s.pos.counter) then
      latchStation c.limit s
    else s

/-- CAPTURE entry (04 R68, 08 R149): the profile is emptied, capture opened, the quiet timer
started and the report posted; then the position unit takes its copies and sets h to 0
(03 R48). The report gives the last station as it stands before that (log 15). -/
def captureEntry (s : State) : State :=
  let s := s.onProfile fun p =>
    { p with records := [], condition := .capturing, number := s.stroke.number }
  let s := s.onStroke fun k =>
    { k with state := .capture, captureOpen := true, quiet := .running, captured := true }
  let s := postStroke .info StrokeOutcome.none.code s
  s.onPos fun p =>
    { p with high := 0
             copies := some { start := s.stroke.params.captureStart, pitch := s.stroke.params.pitch
                              limit := s.stroke.params.maxStations } }

/-! ### The link's reply side (10 R181, R182, R184, R189) -/

/-- What an owner's immediate action answers (10 R182). -/
inductive Answer where
  /-- A status and what follows it. -/
  | reply (status : Status) (detail : List Byte)
  /-- COUNTERS_READ, formed when it is placed (10 R189). -/
  | counters
  /-- SNAPSHOT: the request waits for the next round close (01 R19). -/
  | snapshot
  /-- MAP_COMMIT: the request waits for the end of the commit (06 R108). -/
  | mapCommit
  /-- TOOL_RESET: OK, and the request stays until it has been sent (10 R191). -/
  | toolReset
  deriving DecidableEq, Repr

/-- The OK with a body. -/
def Answer.okWith (body : List Byte) : Answer := .reply .ok body

/-- The bare OK. -/
def Answer.ok : Answer := .reply .ok []

/-- A refusal without detail. -/
def Answer.refusal (status : Status) : Answer := .reply status []

/-- The reply queue has a place. -/
def Link.replyRoom (l : Link) : Bool := decide (l.replies.length < Config.replyPlaces)

/-- Append a reply to the reply queue. -/
def Link.enqueue (r : Reply) (l : Link) : Link := { l with replies := l.replies ++ [r] }

/-- The reply of COUNTERS_READ, formed from the counters as they stand (10 R189). -/
def countersReply (s : State) : Reply :=
  { kind := replyKind Request.countersRead.kind, status := .ok
    detail := countersBody s.link s.pos.stale, resets := false }

/-- Clear the five counters (10 R189, 03 R52). -/
def clearCounters (s : State) : State :=
  (s.onLink fun l => { l with crcErrors := 0, timeouts := 0, overruns := 0, lost := 0 }).onPos
    fun p => { p with stale := 0 }

/-- Set the receive buffer. -/
def setBuffer (b : Buffer) (s : State) : State := s.onLink fun l => { l with buffer := b }

/-- Put a reply into the reply queue, where there is a place for it. The buffer is freed, except
that a TOOL_RESET keeps it (10 R182, R191); COUNTERS_READ reads and clears its counters at this
moment (10 R189). -/
def placeNow (w : Waiting) (s : State) : State :=
  match w with
  | .made r =>
    setBuffer (if r.resets then .toolReset else .empty) (s.onLink (Link.enqueue r))
  | .counters =>
    setBuffer .empty (clearCounters (s.onLink (Link.enqueue (countersReply s))))

/-- Place the reply of the request in the buffer, or let it wait there for a place (10 R182). -/
def place (w : Waiting) (s : State) : State :=
  if s.link.replyRoom then placeNow w s else setBuffer (.waiting w) s

/-- The reply a request's owner makes. -/
def replyTo (kind : Byte) (status : Status) (detail : List Byte) : Reply :=
  { kind := replyKind kind, status := status, detail := detail, resets := false }

/-- What the buffer does with a request of `kind` once its owner has answered. -/
def answer (kind : Byte) (a : Answer) (s : State) : State :=
  match a with
  | .reply status detail => place (.made (replyTo kind status detail)) s
  | .counters => place .counters s
  | .snapshot => setBuffer .snapshot s
  | .mapCommit => setBuffer .mapCommit s
  | .toolReset => place (.made { replyTo kind .ok [] with resets := true }) s

/-- A good frame restarts a running watchdog timer and sets the expiry count to 0 (10 R187). -/
def reloadWatchdog (s : State) : State :=
  s.onLink fun l => { l with watchdog := l.watchdog.map fun _ => l.interval, expiries := 0 }

/-- A good frame meets an occupied buffer: BUSY, or dropped when the reply queue is full; counted
as an overrun either way (10 R181). -/
def overrun (kind : Byte) (s : State) : State :=
  s.onLink fun l =>
    let l := { l with overruns := satSucc 65535 l.overruns }
    if l.replyRoom then l.enqueue (replyTo kind .busy []) else l

/-- A good frame is offered to the receive buffer (10 R181); in an empty one it is dispatched to
`serve`, its owner's immediate action (10 R182). -/
def offer (kind : Byte) (serve : State → State × Answer) (s : State) : State :=
  let s := reloadWatchdog s
  match s.link.buffer with
  | .empty => answer kind (serve s).2 (serve s).1
  | .snapshot | .mapCommit | .toolReset | .waiting _ => overrun kind s

/-- A request waits in the buffer for a place in the reply queue, and there is one. -/
def Link.replyDue (l : Link) : Bool :=
  match l.buffer with
  | .waiting _ => l.replyRoom
  | .empty | .snapshot | .mapCommit | .toolReset => false

/-- The transmitter takes the oldest reply; a waiting reply becomes due for the place (10 R182,
R184). -/
def sendReply (r : Reply) (rest : List Reply) (s : State) : State :=
  let s := s.onLink fun l => { l with replies := rest, sending := some (.reply r) }
  if s.link.replyDue then s.withDue (s.due ++ [.deferredReply]) else s

/-- The transmitter takes the oldest report (10 R184). -/
def sendReport (r : Report) (rest : List Report) (s : State) : State :=
  s.onLink fun l => { l with reports := rest, sending := some (.report r) }

/-- A free transmitter chooses: the oldest reply, or else the oldest report (10 R184). Nothing is
chosen while a tool reset is due at the end of its OK (10 R191). With `together`, both queues were
empty before this step, and which frame goes first is a free choice (log 8). -/
def transmit (together : Bool) (s : State) : State :=
  match s.link.sending with
  | some _ => s
  | none =>
    if s.due.contains .toolReset then s
    else
      match s.link.replies, s.link.reports with
      | [], [] => s
      | r :: rest, [] => sendReply r rest s
      | [], p :: rest => sendReport p rest s
      | r :: rs, p :: ps =>
        if together then
          if Config.reportFirst s.freeCount then (sendReport p ps s).tickFree
          else (sendReply r rs s).tickFree
        else sendReply r rs s

/-! ### The tool reset (04 R80, with 02 R36, 03 R55, 05 R100, R102, 06 R112, R121, 07 R128, R147,
08 R160, 09 R173, 10 R191, R193) -/

/-- The stop-reason set after a tool reset: STROKE removed, LOCKOUT kept, RESET_HOLD added when the
ram is not home (05 R100, R102). -/
def resetReasons (home : Bool) (r : StopSet) : StopSet :=
  { stroke := false, lockout := r.lockout, resetHold := r.resetHold || !home }

/-- The guard unit after a tool reset (05 R102). The readback timer runs on while the set stays
non-empty (05 R100). -/
def Guard.toolReset (home : Bool) (g : Guard) : Guard :=
  let left := resetReasons home g.reasons
  { g with
    reasons := left
    readback := if left.isEmpty then .stopped
      else if g.reasons.isEmpty && g.sensed == .high then .running else g.readback
    segPersist := List.replicate Config.segments 0, totalPersist := 0
    tripGiven := false, trip := none
    counting := false, overtravel := 0, overtravelGiven := false }

/-- The stroke controller after a tool reset (04 R80, R81). -/
def Stroke.toolReset (k : Stroke) : Stroke :=
  { k with state := .disarmed, outcome := .none, secondary := none, secondaryCount := 0
           seat := none, dwell := none, quiet := .stopped, captureOpen := false
           captured := false }

/-- The position unit after a tool reset (03 R55). -/
def Pos.toolReset (p : Pos) : Pos :=
  { p with copies := none, high := 0, roundSinceLatch := false }

/-- The OK of a TOOL_RESET already in transmission is sent to its end but no longer acts
(10 R191). -/
def OutFrame.withoutReset : OutFrame → OutFrame
  | .reply r => .reply { r with resets := false }
  | .report r => .report r

/-- The link unit after a tool reset, before any waiting reply is placed (10 R191, R193). -/
def Link.toolReset (l : Link) : Link :=
  { l with replies := [], reports := [], watchdog := none, expiries := 0
           sending := l.sending.map OutFrame.withoutReset }

/-- What a tool reset does with the request in the buffer: a SNAPSHOT stays, a TOOL_RESET and an
abandoned MAP_COMMIT are removed, and a reply that waited for space is placed in the emptied queue
(10 R191). -/
def resetBuffer (s : State) : State :=
  match s.link.buffer with
  | .empty | .snapshot => s
  | .mapCommit | .toolReset => setBuffer .empty s
  | .waiting .counters => place .counters s
  | .waiting (.made r) => if r.resets then setBuffer .empty s else place (.made r) s

/-- The tool reset, taken by every block at once; the stroke controller then posts RESTART with
the state it held before (04 R80). -/
def toolReset (s : State) : State :=
  let prior := s.stroke.state
  let home := s.home
  let s := clearCal s
  let s := (s.onPos Pos.toolReset).onProfile fun _ => Profile.initial
  let s := (s.onStroke Stroke.toolReset).onGuard (Guard.toolReset home)
  let s := s.onMap fun m => { m with staging := [], commit := none }
  let s := (invalidateResults s).onEngine fun e =>
    { e with run := none, work := WorkTable.empty }
  let s := s.onLines fun u => { u with indication := .none }
  let s := resetBuffer (s.onLink Link.toolReset)
  post (restartReport prior s.stroke.number) s

/-! ### Steps that other steps make due (log 2) -/

/-- A trip is given (05 R88, R89, R90): the flag and the detail are written, and the stroke
controller takes the halt cause by the state it finds. -/
def giveTrip (cause : HaltCause) (detail : TripDetail) (s : State) : State :=
  halt cause (s.onGuard fun g => { g with tripGiven := true, trip := some detail })

/-- An overrange event (05 R91): a lockout or a repeat, and in a stroke the halt cause. -/
def overrangeTaken (segment : Nat) (s : State) : State :=
  let gives := s.stroke.state.inStroke
  let s := lockoutCause .overrange (some segment) s
  if gives then halt .overrange s else s

/-- A bottom-rail pair (01 R10): status OPEN and a SEGMENT_EVENT. -/
def bottomRailTaken (segment : Nat) (s : State) : State :=
  post (segmentEvent segment s.stroke.number)
    (s.onAcq fun a =>
      { a with segs := a.segs.set segment { a.seg segment with status := .opened } })

/-- The overtravel count has first exceeded the allowance (05 R93). -/
def overtravelTaken (s : State) : State :=
  halt .overtravel (lockoutCause .overtravel none
    (s.onGuard fun g => { g with overtravelGiven := true }))

/-- A reply that waited for a place is placed, and the buffer frees (10 R182). -/
def deferredReplyTaken (s : State) : State :=
  match s.link.buffer with
  | .waiting w => place w s
  | .empty | .snapshot | .mapCommit | .toolReset => s

/-- A SNAPSHOT that waits in the buffer is answered with the latest sample set (01 R19). -/
def answerSnapshot (s : State) : State :=
  match s.link.buffer with
  | .snapshot =>
    place (.made (replyTo Request.snapshot.kind .ok (snapshotBody s.acq.latest))) s
  | .empty | .mapCommit | .toolReset | .waiting _ => s

/-- Take one due step. -/
def takeDue (d : Due) (s : State) : State :=
  match d with
  | .settleEnd => settleEnd s
  | .tripSegment segment force =>
    giveTrip .tripSegment { segment := some segment, force := force } s
  | .tripTotal total => giveTrip .tripTotal { segment := none, force := total } s
  | .overrange segment => overrangeTaken segment s
  | .bottomRail segment => bottomRailTaken segment s
  | .tareCompletion => tareCompletion s
  | .shuntWaitEnd => shuntWaitEnd s
  | .shuntGroupJudged => shuntGroupJudged s
  | .overtravel => overtravelTaken s
  | .deferredReply => deferredReplyTaken s
  | .toolReset => toolReset s
  | .snapshotReply => answerSnapshot s

/-- The due step at the front is taken off the list and takes its effect; the transmitter then
chooses if it is free, before the next due step is taken (10 R184). -/
def runDue (d : Due) (s : State) : State := transmit true (takeDue d (s.withDue s.due.tail))

/-- Take the listed due steps in their order, up to and including the first that `wanted` picks; all
of them when it picks none. -/
def takeThrough (wanted : Due → Bool) : List Due → State → State
  | [], s => s
  | d :: rest, s => if wanted d then runDue d s else takeThrough wanted rest (runDue d s)

/-- Take the due steps up to and including the first that `wanted` picks. -/
def settleThrough (wanted : Due → Bool) (s : State) : State := takeThrough wanted s.due s

/-- Take every due step. -/
def settle (s : State) : State := settleThrough (fun _ => false) s

/-- A command of the running part: what is due is taken first, then the command's own effect `f`,
and the transmitter chooses if it is free, before the steps that `f` makes due are taken (10 R184). A
part held in power-on reset takes no command (09 R175, 10 R193; log 20). -/
def live (f : State → State) (s : State) : Host.Outcome State Fault Refusal :=
  .next (if s.held then s else transmit true (f (settle s)))

/-- A command that is a due step: the due steps up to it are taken. One that is not due does not
happen (log 2). -/
def liveDue (wanted : Due → Bool) (s : State) : Host.Outcome State Fault Refusal :=
  .next (if s.held then s else settleThrough wanted s)

/-- A request: a good frame holding it is offered to the receive buffer (log 1). -/
def request (r : Request) (serve : State → State × Answer) (s : State) :
    Host.Outcome State Fault Refusal :=
  live (offer r.kind serve) s

end Sys2Proof.Machine
end

