-- ==== Sys2Proof/Machine/GuardEvents.lean ====
section
/-! DEFINITION. The events of the stop line: STOP_N_SENSE_CHANGE (05 R84, R86, R92) and
READBACK_TIMER_EXPIRY (05 R85). -/

namespace Sys2Proof.Machine

/-- The line is sensed low: the readback timer stops (05 R85), overtravel counting begins in
APPROACH, CAPTURE, HOLD and HALTED (05 R92), and with no reason of this head's own it is an external
stop in APPROACH and CAPTURE (05 R86). -/
def senseLow (s : State) : State :=
  let external := s.guard.reasons.isEmpty && s.stroke.state.descending
  let s := s.onGuard fun g =>
    { g with sensed := .low, readback := .stopped
             counting := g.counting || s.stroke.state.countsStops }
  if external then halt .externalStop s else s

/-- The line is sensed high: with a reason in the set the readback timer starts (05 R85). -/
def senseHigh (s : State) : State :=
  s.onGuard fun g =>
    { g with sensed := .high
             readback := if g.reasons.isEmpty then g.readback else .running }

/-- STOP_N is taken at a level (05 R84); the level it already has is no change (log 4). -/
def stopNSenseChange (level : Level) (s : State) : State :=
  if s.guard.sensed = level then s
  else
    match level with
    | .low => senseLow s
    | .high => senseHigh s

/-- The running readback timer has run for more than 1 ms (05 R85): a lockout or a repeat, and the
halt cause STOP_READBACK. -/
def readbackTimerExpiry (s : State) : State :=
  if s.guard.readback = .running then
    halt .stopReadback
      (lockoutCause .stopReadback none (s.onGuard fun g => { g with readback := .expired }))
  else s

/-- STOP_N_SENSE_CHANGE. -/
def execStopNSenseChange (level : Level) (s : State) : Host.Outcome State Fault Refusal :=
  live (stopNSenseChange level) s

/-- READBACK_TIMER_EXPIRY. -/
def execReadbackTimerExpiry (s : State) : Host.Outcome State Fault Refusal :=
  live readbackTimerExpiry s

end Sys2Proof.Machine
end

