-- ==== Sys2Proof/Machine/Operands.lean ====
section
/-! DEFINITION. The operand checks of the requests, each in the order its rule gives, and the
records the accepted operands amount to. -/

namespace Sys2Proof

open Machine

/-- The index of the first check that fails; the list says of each check whether it fails. -/
def firstFailing (fails : List Bool) : Option Nat := fails.findIdx? id

/-! ### SET_SENSE (01 R13) -/

/-- The period a SET_SENSE names, in microseconds. -/
def periodOf (w : BitVec 16) : Option Period :=
  if w.toNat = 250 then some .us250
  else if w.toNat = 500 then some .us500
  else if w.toNat = 1000 then some .us1000
  else if w.toNat = 2000 then some .us2000
  else none

/-! ### SET_SEGMENT (01 R15) -/

/-- The fields of a SET_SEGMENT are in range (01 R15, check 3). -/
def SegmentWire.fieldsOk (w : SegmentWire) : Bool :=
  w.segment.toNat ≤ 63 && w.enabled.toNat ≤ 1 && w.masked.toNat ≤ 1 && w.gain.toNat != 0 &&
    w.tripLimit.toNat != 0 && w.tripLimit.toNat ≤ 32767 && w.shuntRef.toNat ≤ 32767

/-- The record a SET_SEGMENT writes over `g`: its five fields, offset and status kept. -/
def SegmentWire.write (w : SegmentWire) (g : Segment) : Segment :=
  { g with enabled := w.enabled.toNat == 1, masked := w.masked.toNat == 1, gain := w.gain.toNat,
           shuntRef := w.shuntRef.toNat, tripLimit := w.tripLimit.toNat }

/-! ### SET_STROKE (04 R61, R62) -/

/-- The seating mode of a code (04 R62). -/
def modeOf (b : Byte) : Option SeatingMode :=
  if b.toNat = 0 then some .force
  else if b.toNat = 1 then some .position
  else if b.toNat = 2 then some .either
  else none

/-- A signed field lies within 0 to `hi`. -/
def within {n : Nat} (lo hi : Int) (w : BitVec n) : Bool := lo ≤ w.toInt && w.toInt ≤ hi

/-- For each field of SET_STROKE, in order of index, whether it fails; a condition on two fields
is tested at the field of higher index (04 R62). -/
def StrokeWire.fails (w : StrokeWire) : List Bool :=
  [ !within 0 500000 w.homeZone,
    !(w.homeZone.toInt < w.captureStart.toInt && w.captureStart.toInt ≤ 500000),
    !(w.captureStart.toInt < w.endPosition.toInt && w.endPosition.toInt ≤ 500000),
    !(1 ≤ w.pitch.toNat && w.pitch.toNat ≤ 64),
    !(1 ≤ w.maxStations.toNat && w.maxStations.toNat ≤ 1024),
    (modeOf w.mode).isNone,
    !(2 ≤ w.span.toNat && w.span.toNat ≤ 32),
    !within 1 2097152 w.rise,
    !within 0 2097152 w.floor,
    !(w.earliest.toNat ≤ 1023),
    !(within 0 500000 w.seatPosition &&
      (modeOf w.mode == some .force || w.captureStart.toInt < w.seatPosition.toInt)),
    !(w.dwell.toNat ≤ 5000),
    !(w.allowance.toNat ≤ 255),
    !(1 ≤ w.segPersistence.toNat && w.segPersistence.toNat ≤ 16),
    !within 1 2097152 w.totalLimit,
    !(1 ≤ w.totalPersistence.toNat && w.totalPersistence.toNat ≤ 16),
    !(1 ≤ w.tolerance.toNat && w.tolerance.toNat ≤ 20) ]

/-- The parameter set an accepted SET_STROKE writes. -/
def StrokeWire.params (w : StrokeWire) : Params :=
  { homeZone := w.homeZone.toNat
    captureStart := w.captureStart.toNat
    endPosition := w.endPosition.toNat
    pitch := w.pitch.toNat
    maxStations := w.maxStations.toNat
    mode := (modeOf w.mode).getD .force
    span := w.span.toNat
    rise := w.rise.toNat
    floor := w.floor.toNat
    earliest := w.earliest.toNat
    seatPosition := w.seatPosition.toNat
    dwell := w.dwell.toNat
    allowance := w.allowance.toNat
    segPersistence := w.segPersistence.toNat
    totalLimit := w.totalLimit.toNat
    totalPersistence := w.totalPersistence.toNat
    tolerance := w.tolerance.toNat }

/-! ### SET_CLASS (06 R117, R118) -/

/-- For each field of SET_CLASS, in order of index, whether it fails; the ordered relation of the
limits is tested at the later field of each pair. -/
def ClassWire.fails (w : ClassWire) : List Bool :=
  [ !(w.number.toNat ≤ 7),
    !within 0 32767 w.absent,
    !within w.absent.toInt 32767 w.low,
    !within w.low.toInt 32767 w.high,
    !(w.lead.toNat ≤ 15),
    !(1 ≤ w.span.toNat && w.span.toNat ≤ 64),
    !(1 ≤ w.depth.toNat && w.depth.toNat ≤ 8) ]

/-- The class record an accepted SET_CLASS writes. -/
def ClassWire.record (w : ClassWire) : WindowClass :=
  { absent := w.absent.toNat, low := w.low.toNat, high := w.high.toNat, lead := w.lead.toNat
    span := w.span.toNat, depth := w.depth.toNat }

/-! ### MAP_ADD (06 R104, R107) -/

/-- The fields of a pin record are in range (06 R104). -/
def PinWire.ok (p : PinWire) : Bool :=
  1 ≤ p.pin.toNat && p.pin.toNat ≤ 4095 && p.segment.toNat ≤ 63 && p.engage.toNat ≤ 1023 &&
    p.cls.toNat ≤ 7

/-- The pin record of a MAP_ADD record. -/
def PinWire.record (p : PinWire) : PinRecord :=
  { pin := p.pin.toNat, segment := p.segment.toNat, engage := p.engage.toNat, cls := p.cls.toNat }

/-- The position within the frame of the first record with a field out of range. -/
def firstBadPin (records : List PinWire) : Option Nat := firstFailing (records.map fun p => !p.ok)

/-! ### SET_LINES (09 R164, R166, R174) -/

/-- The line function of a code (09 R174). -/
def functionOf (b : Byte) : Option LineFunction :=
  match b.toNat with
  | 0 => some .generalIn
  | 1 => some .generalOut
  | 2 => some .home
  | 3 => some .guardInput
  | 4 => some .maint
  | 5 => some .retractReq
  | 6 => some .passOut
  | 7 => some .failOut
  | 8 => some .busyOut
  | _ => none

/-- The active level of a code: 0 low, 1 high (09 R174). -/
def levelOf (b : Byte) : Option Level :=
  if b.toNat = 0 then some .low else if b.toNat = 1 then some .high else none

/-- A line record's codes are in range (09 R166, check 2). -/
def LineWire.ok (l : LineWire) : Bool := (functionOf l.function).isSome && (levelOf l.active).isSome

/-- A function that at most one line may hold (09 R166). -/
def Machine.LineFunction.single : LineFunction → Bool
  | .generalIn | .generalOut => false
  | .home | .guardInput | .maint | .retractReq | .passOut | .failOut | .busyOut => true

/-- The number of the lowest line whose function, one that a single line may hold, is already
named on a lower line (09 R166, check 3). `lower` holds the functions of the lower lines, `n` is
the number of the line in hand. -/
def secondNamed (lower : List LineFunction) (n : Nat) : List LineFunction → Option Nat
  | [] => none
  | f :: rest => if f.single && lower.contains f then some n
    else secondNamed (f :: lower) (n + 1) rest

/-- The line a SET_LINES is refused for, if any: the lowest with a bad code, otherwise the second
to name a function (09 R166). -/
def badLine (records : List LineWire) : Option Nat :=
  match firstFailing (records.map fun l => !l.ok) with
  | some n => some n
  | none => secondNamed [] 0 (records.filterMap fun l => functionOf l.function)

/-- The line an accepted record makes of `l`: stored value and filter kept (09 R167). -/
def LineWire.write (w : LineWire) (l : Line) : Line :=
  { l with function := (functionOf w.function).getD l.function
           active := (levelOf w.active).getD l.active }

/-- The line table an accepted SET_LINES writes. -/
def writeLineTable (records : List LineWire) (ls : List Line) : List Line :=
  List.zipWith LineWire.write records ls

/-- The eight stored values of WRITE_LINES, bit n for line n (09 R174). -/
def writeStored (values : Byte) (ls : List Line) : List Line :=
  ls.mapIdx fun n l => { l with stored := values.getLsbD n }

/-! ### SET_LINK (10 R188) -/

/-- A watchdog interval: 0, or 50 to 2000 ms. -/
def intervalOk (w : BitVec 16) : Bool := w.toNat == 0 || (50 ≤ w.toNat && w.toNat ≤ 2000)

end Sys2Proof
end

