-- ==== Sys2Proof/Machine/AcquisitionRequests.lean ====
section
/-! DEFINITION. The acquisition unit's requests (01 R13 to R19): SET_SENSE, SET_SEGMENT,
GET_SEGMENT, SNAPSHOT. -/

namespace Sys2Proof.Machine

/-- A settle begins: the settle count is 8 and every pair count 0 (01 R4). -/
def Acq.startSettle (a : Acq) : Acq :=
  { a with settleCount := Config.settleRounds
           topPairs := List.replicate Config.segments 0
           bottomPairs := List.replicate Config.segments 0 }

/-- The status of an enabled segment becomes UNCHECKED (01 R14). -/
def Segment.uncheckEnabled (g : Segment) : Segment :=
  if g.enabled then { g with status := .unchecked } else g

/-- An accepted SET_SENSE (01 R14). The round in progress has no data to drop (log 12). -/
def acceptSense (p : Period) (s : State) : State :=
  (s.onAcq fun a =>
    { a.startSettle with period := p, segs := a.segs.map Segment.uncheckEnabled }).onCal
      fun c => { c with tareValid := false }

/-- SET_SENSE: BUSY, STATE, FIELD in this order (01 R13), otherwise accepted (01 R14). -/
def serveSetSense (period : BitVec 16) (s : State) : State × Answer :=
  if s.cal.run.isSome then (s, .refusal .busy)
  else if !s.stroke.state.idle then (s, .refusal .state)
  else
    match periodOf period with
    | none => (s, .refusal .field)
    | some p => (acceptSense p s, .ok)

/-- The status a changing SET_SEGMENT leaves: UNCHECKED when the segment is newly enabled or its
gain or shunt reference changed (01 R12, R16, R17). -/
def changedStatus (old new : Segment) : SegStatus :=
  if (!old.enabled && new.enabled) || old.gain != new.gain || old.shuntRef != new.shuntRef then
    .unchecked
  else old.status

/-- The acquisition unit after record `n` has changed from `old` to `new`: a settle begins when it
is newly enabled (01 R16), its pair counts become 0 when it is newly disabled (01 R9, R10, R16). -/
def Acq.change (n : Nat) (old new : Segment) (a : Acq) : Acq :=
  let a := { a with segs := a.segs.set n { new with status := changedStatus old new } }
  if !old.enabled && new.enabled then a.startSettle
  else if old.enabled && !new.enabled then
    { a with topPairs := a.topPairs.set n 0, bottomPairs := a.bottomPairs.set n 0 }
  else a

/-- A SET_SEGMENT that changes at least one field (01 R15 to R17): the results become invalid, and
tare-valid is cleared when the segment is newly enabled. -/
def acceptSegment (n : Nat) (old new : Segment) (s : State) : State :=
  let s := (invalidateResults s).onAcq (Acq.change n old new)
  if !old.enabled && new.enabled then s.onCal fun c => { c with tareValid := false } else s

/-- SET_SEGMENT: BUSY, STATE, FIELD in this order; a record equal to the one held changes nothing
(01 R15). -/
def serveSetSegment (w : SegmentWire) (s : State) : State × Answer :=
  if s.cal.run.isSome then (s, .refusal .busy)
  else if !s.stroke.state.idle then (s, .refusal .state)
  else if !w.fieldsOk then (s, .refusal .field)
  else
    let old := s.acq.seg w.segment.toNat
    if w.write old = old then (s, .ok)
    else (acceptSegment w.segment.toNat old (w.write old) s, .ok)

/-- GET_SEGMENT is served in every state; a number above 63 is refused with FIELD (01 R18). -/
def serveGetSegment (segment : Byte) (s : State) : State × Answer :=
  if 63 < segment.toNat then (s, .refusal .field)
  else (s, .okWith (segmentBody segment.toNat (s.acq.seg segment.toNat)))

/-- SNAPSHOT waits in the buffer for the next round close (01 R19). -/
def serveSnapshot (s : State) : State × Answer := (s, .snapshot)

/-- SET_SENSE. -/
def execSetSense (period : BitVec 16) (s : State) : Host.Outcome State Fault Refusal :=
  request (.setSense period) (serveSetSense period) s

/-- SET_SEGMENT. -/
def execSetSegment (w : SegmentWire) (s : State) : Host.Outcome State Fault Refusal :=
  request (.setSegment w) (serveSetSegment w) s

/-- GET_SEGMENT. -/
def execGetSegment (segment : Byte) (s : State) : Host.Outcome State Fault Refusal :=
  request (.getSegment segment) (serveGetSegment segment) s

/-- SNAPSHOT. -/
def execSnapshot (s : State) : Host.Outcome State Fault Refusal :=
  request .snapshot serveSnapshot s

end Sys2Proof.Machine
end

