-- ==== Sys2Proof/Machine/CalibrationRequests.lean ====
section
/-! DEFINITION. The calibration unit's requests (02 R24, R25): TARE and SHUNT_CHECK. -/

namespace Sys2Proof.Machine

/-- The segments enabled at acceptance, masked ones included (02 R24, R25). -/
def Acq.participants (a : Acq) : List Nat :=
  (List.range Config.segments).filter fun n => (a.seg n).enabled

/-- The run an accepted operation begins, with no round taken (02 R23). -/
def Acq.beginRun (job : CalJob) (phase : CalPhase) (a : Acq) : CalRun :=
  { job := job, phase := phase, rounds := 0, participants := a.participants, sums := zeroSums
    rails := noRails }

/-- An accepted TARE (02 R24): the phase is WAIT_SETTLE during a settle, AVERAGE otherwise. -/
def acceptTare (s : State) : State :=
  let phase := if 0 < s.acq.settleCount then CalPhase.waitSettle else CalPhase.average
  s.onCal fun c => { c with run := some (s.acq.beginRun .tare phase) }

/-- TARE: BUSY, STATE, NOT_HOME in this order (02 R24). -/
def serveTare (s : State) : State × Answer :=
  if s.cal.run.isSome then (s, .refusal .busy)
  else if !s.stroke.state.idle then (s, .refusal .state)
  else if !s.home then (s, .refusal .notHome)
  else (acceptTare s, .ok)

/-- The groups of a selection: one, or all four in order (02 R25). -/
def selectedGroups (selection : Nat) : List Nat :=
  if selection = 4 then [0, 1, 2, 3] else [selection]

/-- The job of an accepted SHUNT_CHECK: its groups and the tolerance as it stands (02 R25). -/
def shuntJob (selection tolerance : Nat) : ShuntJob :=
  { groups := selectedGroups selection, tolerance := tolerance, finished := []
    tally := Tally.zero }

/-- An accepted SHUNT_CHECK (02 R25): outside a settle the first group's switches close at once. -/
def acceptShunt (selection : Nat) (s : State) : State :=
  let settling := decide (0 < s.acq.settleCount)
  let phase := if settling then CalPhase.waitSettle else CalPhase.shuntWait
  let job := shuntJob selection s.stroke.params.tolerance
  s.onCal fun c =>
    { c with
      run := some (s.acq.beginRun (.shunt job) phase)
      switches := if settling then c.switches else switchesFor (job.groups.headD 0) }

/-- SHUNT_CHECK: BUSY, STATE, FIELD, NOT_HOME in this order (02 R25). -/
def serveShuntCheck (selection : Byte) (s : State) : State × Answer :=
  if s.cal.run.isSome then (s, .refusal .busy)
  else if !s.stroke.state.idle then (s, .refusal .state)
  else if 4 < selection.toNat then (s, .refusal .field)
  else if !s.home then (s, .refusal .notHome)
  else (acceptShunt selection.toNat s, .ok)

/-- TARE. -/
def execTare (s : State) : Host.Outcome State Fault Refusal := request .tare serveTare s

/-- SHUNT_CHECK. -/
def execShuntCheck (selection : Byte) (s : State) : Host.Outcome State Fault Refusal :=
  request (.shuntCheck selection) (serveShuntCheck selection) s

end Sys2Proof.Machine
end

