-- ==== Sys2Proof/Machine/GuardRequests.lean ====
section
/-! DEFINITION. The guard unit's requests (05 R98, R99): LOCKOUT_READ and LOCKOUT_CLEAR. -/

namespace Sys2Proof.Machine

/-- LOCKOUT_READ is answered with the record as it stands (05 R98). -/
def serveLockoutRead (s : State) : State × Answer := (s, .okWith (lockoutBody s.guard.lockout))

/-- Some enabled segment's latest raw code is at the top rail (01 R22, 05 R99). -/
def Acq.someTopRail (a : Acq) : Bool :=
  (List.range Config.segments).any fun n => (a.seg n).enabled && (a.latest.at n).atTop

/-- An accepted LOCKOUT_CLEAR (05 R99): the state becomes CLEARED, LOCKOUT leaves the set. -/
def acceptLockoutClear (s : State) : State :=
  removeReason .lockout
    (s.onGuard fun g => { g with lockout := { g.lockout with latched := false } })

/-- LOCKOUT_CLEAR: STATE, NO_MAINT, RAIL, NOT_LATCHED in this order (05 R99). -/
def serveLockoutClear (s : State) : State × Answer :=
  if !s.stroke.state.idle then (s, .refusal .state)
  else if !s.maintOn then (s, .refusal .noMaint)
  else if s.acq.someTopRail then (s, .refusal .rail)
  else if !s.guard.lockout.latched then (s, .refusal .notLatched)
  else (acceptLockoutClear s, .ok)

/-- LOCKOUT_READ. -/
def execLockoutRead (s : State) : Host.Outcome State Fault Refusal :=
  request .lockoutRead serveLockoutRead s

/-- LOCKOUT_CLEAR. -/
def execLockoutClear (s : State) : Host.Outcome State Fault Refusal :=
  request .lockoutClear serveLockoutClear s

end Sys2Proof.Machine
end

