-- ==== Sys2Proof/WellFormed.lean ====
section
/-! DEFINITION. Which commands are well formed: those whose operands a sender can give. The
machine gives ill-formed commands a meaning too (a frame of the wrong length is answered LENGTH);
the checks say where the operand shape of `Instr` is wider than the event it stands for. -/

namespace Sys2Proof

/-- MAP_ADD carries 1 to 40 pin records (06 R107, 10 R179). -/
def mapAddLengthOk (records : List PinWire) : Bool :=
  1 ≤ records.length && records.length ≤ 40

/-- SET_LINES carries eight line records (09 R166, R174). -/
def lineCountOk (records : List LineWire) : Bool :=
  records.length == 8

/-- A round close converts 64 channels (01 R1). -/
def bridgeCountOk (bridges : List Int) : Bool :=
  bridges.length == 64

/-- A tool-reset pulse lasts 10 µs or more and ends before 10 ms have passed (09 R175). -/
def toolResetPulseOk (lowMicros : Nat) : Bool :=
  10 ≤ lowMicros && lowMicros < 10000

/-- A length byte the HEADER state refuses: 0, or 250 to 255 (10 R180). -/
def badLengthByte (b : Byte) : Bool :=
  b.toNat == 0 || 250 ≤ b.toNat

/-- A request's operands are ones a frame of its length can carry. -/
def Request.wellFormed : Request → Bool
  | .mapAdd records => mapAddLengthOk records
  | .setLines records => lineCountOk records
  | .ping | .status | .countersRead | .setLink _ | .toolReset | .setSense _ | .setSegment _
  | .getSegment _ | .snapshot | .tare | .shuntCheck _ | .setStroke _ | .getStroke | .arm
  | .disarm | .abort | .lockoutRead | .lockoutClear | .mapBegin | .mapCommit | .mapRead _ _
  | .setClass _ | .getClass _ | .profileRead _ _ _ | .resultRead _ _ | .resultSummary
  | .writeLines _ | .readLines => true

/-- A command's operands are ones its sender can give. -/
def Instr.wellFormed : Instr → Bool
  | .mapAdd records => mapAddLengthOk records
  | .setLines records => lineCountOk records
  | .conversionRoundClose bridges => bridgeCountOk bridges
  | .resetNToolReset lowMicros => toolResetPulseOk lowMicros
  | .headerLengthError b => badLengthByte b
  | .ping | .status | .countersRead | .setLink _ | .toolReset | .toolResetActs | .setSense _
  | .setSegment _ | .getSegment _ | .snapshot | .tare | .shuntCheck _ | .setStroke _ | .getStroke
  | .arm | .disarm | .abort | .lockoutRead | .lockoutClear | .mapBegin | .mapCommit
  | .mapCommitCompletion | .mapRead _ _ | .setClass _ | .getClass _ | .profileRead _ _ _
  | .resultRead _ _ | .resultSummary | .writeLines _ | .readLines | .frameReceived _
  | .frameTimeout | .discardGapEnd | .deferredReplyPlaced | .frameTransmitted | .watchdogExpiry
  | .linkReset | .powerOnReset | .powerOnResetRelease _ | .settleEnd | .tripSegment | .tripTotal
  | .overrangeEvent _ | .bottomRailPair _ | .tareCompletion | .shuntWaitEnd | .shuntGroupJudged
  | .encoderCount _ | .encoderFault _ | .referencePulse | .overtravel | .dwellExpiry
  | .quietTimerExpiry | .evaluationCompletion | .stopNSenseChange _ | .readbackTimerExpiry
  | .lineFilterChange _ _ | .byteTaken _ => true

end Sys2Proof
end

