-- ==== Sys2Proof/Machine/LineCommands.lean ====
section
/-! DEFINITION. The line unit's requests and its filter event (09 R165 to R172): SET_LINES,
WRITE_LINES, READ_LINES, LINE_FILTER_CHANGE. -/

namespace Sys2Proof.Machine

/-- An accepted SET_LINES (09 R167): functions and active levels are written together; home and
GUARD are evaluated again. -/
def acceptLines (records : List LineWire) (s : State) : State :=
  let t := s.onLines fun u => { u with lines := writeLineTable records u.lines }
  guardChange s.guardOk (homeChange s.home t)

/-- SET_LINES: LENGTH for a frame that does not hold eight records, STATE outside DISARMED and
COMPLETE, FIELD with the line number, otherwise accepted (09 R166, R174). -/
def serveSetLines (records : List LineWire) (s : State) : State × Answer :=
  if !lineCountOk records then (s, .refusal .length)
  else if !s.stroke.state.idle then (s, .refusal .state)
  else
    match badLine records with
    | some n => (s, .reply .field (u8 n))
    | none => (acceptLines records s, .ok)

/-- WRITE_LINES writes the eight stored values in every state (09 R168). -/
def serveWriteLines (values : Byte) (s : State) : State × Answer :=
  (s.onLines fun u => { u with lines := writeStored values u.lines }, .ok)

/-- READ_LINES is answered with the eight lines as they stand (09 R169). -/
def serveReadLines (s : State) : State × Answer := (s, .okWith (linesBody s))

/-- The line of a number; a number the unit does not hold reads as a fresh line. -/
def Lines.at (u : Lines) (n : Nat) : Line := u.lines.getD n Line.initial

/-- A line takes a new filtered level (09 R165). -/
def Lines.filter (n : Nat) (level : Level) (u : Lines) : Lines :=
  { u with lines := u.lines.set n { u.at n with filtered := level } }

/-- A filtered change: an event of home when the line holds HOME, of GUARD when it holds GUARD
(09 R165, R172). A level the filter already has is no change (log 4). -/
def lineFilterChange (n : Nat) (level : Level) (s : State) : State :=
  if (s.lines.at n).filtered = level then s
  else guardChange s.guardOk (homeChange s.home (s.onLines (Lines.filter n level)))

/-- SET_LINES. -/
def execSetLines (records : List LineWire) (s : State) : Host.Outcome State Fault Refusal :=
  request (.setLines records) (serveSetLines records) s

/-- WRITE_LINES. -/
def execWriteLines (values : Byte) (s : State) : Host.Outcome State Fault Refusal :=
  request (.writeLines values) (serveWriteLines values) s

/-- READ_LINES. -/
def execReadLines (s : State) : Host.Outcome State Fault Refusal :=
  request .readLines serveReadLines s

/-- LINE_FILTER_CHANGE. -/
def execLineFilterChange (line : Fin 8) (level : Level) (s : State) :
    Host.Outcome State Fault Refusal :=
  live (lineFilterChange line.val level) s

end Sys2Proof.Machine
end

