-- ==== Sys2Proof/Machine/LinkRequests.lean ====
section
/-! DEFINITION. The link unit's own requests (10 R188 to R191): PING, STATUS, COUNTERS_READ,
SET_LINK, TOOL_RESET. -/

namespace Sys2Proof.Machine

/-- PING is answered OK with the identity (10 R190). -/
def servePing (s : State) : State × Answer := (s, .okWith pingBody)

/-- STATUS is answered OK with the state as it stands (10 R190). -/
def serveStatus (s : State) : State × Answer := (s, .okWith (statusBody s))

/-- COUNTERS_READ is answered with the five counters, formed and cleared when the reply is placed
(10 R189). -/
def serveCountersRead (s : State) : State × Answer := (s, .counters)

/-- SET_LINK: STATE in APPROACH and CAPTURE, FIELD for an interval out of range, otherwise the
interval is set and returned (10 R188). -/
def serveSetLink (interval : BitVec 16) (s : State) : State × Answer :=
  if s.stroke.state.descending then (s, .refusal .state)
  else if !intervalOk interval then (s, .refusal .field)
  else (s.onLink fun l => { l with interval := interval.toNat }, .okWith (u16 interval.toNat))

/-- TOOL_RESET is answered OK and stays in the buffer until that OK has been sent (10 R191). -/
def serveToolReset (s : State) : State × Answer := (s, .toolReset)

/-- PING. -/
def execPing (s : State) : Host.Outcome State Fault Refusal := request .ping servePing s

/-- STATUS. -/
def execStatus (s : State) : Host.Outcome State Fault Refusal := request .status serveStatus s

/-- COUNTERS_READ. -/
def execCountersRead (s : State) : Host.Outcome State Fault Refusal :=
  request .countersRead serveCountersRead s

/-- SET_LINK. -/
def execSetLink (interval : BitVec 16) (s : State) : Host.Outcome State Fault Refusal :=
  request (.setLink interval) (serveSetLink interval) s

/-- TOOL_RESET. -/
def execToolReset (s : State) : Host.Outcome State Fault Refusal :=
  request .toolReset serveToolReset s

end Sys2Proof.Machine
end

