-- ==== Sys2Proof/Machine/MapRequests.lean ====
section
/-! DEFINITION. The map unit's requests and the end of a commit (06 R106 to R120): MAP_BEGIN,
MAP_ADD, MAP_COMMIT, MAP_COMMIT_COMPLETION, MAP_READ, SET_CLASS, GET_CLASS. -/

namespace Sys2Proof.Machine

/-- MAP_BEGIN empties the staging list (06 R106). -/
def serveMapBegin (s : State) : State × Answer :=
  (s.onMap fun m => { m with staging := [] }, .ok)

/-- MAP_ADD: LENGTH for a frame that does not hold 1 to 40 records, FIELD with the position of the
first bad record, FULL, otherwise the records are appended and their count returned (06 R107). -/
def serveMapAdd (records : List PinWire) (s : State) : State × Answer :=
  if !mapAddLengthOk records then (s, .refusal .length)
  else
    match firstBadPin records with
    | some i => (s, .reply .field (u8 i))
    | none =>
      let list := s.map.staging ++ records.map PinWire.record
      if Config.stagingPlaces < list.length then (s, .refusal .full)
      else (s.onMap fun m => { m with staging := list }, .okWith (u16 list.length))

/-- The commit a MAP_COMMIT takes: the staging list and the defined classes as they stand
(06 R103, R109). -/
def MapUnit.takeCommit (m : MapUnit) : Commit :=
  { list := m.staging, defined := m.classes.map Option.isSome }

/-- MAP_COMMIT: STATE outside DISARMED and COMPLETE, otherwise taken, to be answered at its end
(06 R108). A commit left running by a link reset is answered BUSY (log 18). -/
def serveMapCommit (s : State) : State × Answer :=
  if !s.stroke.state.idle then (s, .refusal .state)
  else if s.map.commit.isSome then (s, .refusal .busy)
  else (s.onMap fun m => { m with commit := some m.takeCommit }, .mapCommit)

/-- The lowest index of a record that offends against a check, given the earlier records; `n` is
the index of the record in hand. -/
def firstOffending (offends : List PinRecord → PinRecord → Bool) (earlier : List PinRecord)
    (n : Nat) : List PinRecord → Option Nat
  | [] => none
  | p :: rest =>
    if offends earlier p then some n else firstOffending offends (p :: earlier) (n + 1) rest

/-- Two records share segment and engage station (06 R109, R115). -/
def PinRecord.sameCohort (p q : PinRecord) : Bool := p.segment == q.segment && p.engage == q.engage

/-- The record's pin number occurs at an earlier index (06 R109, check 2). -/
def offendsDupPin (earlier : List PinRecord) (p : PinRecord) : Bool :=
  earlier.any fun q => q.pin == p.pin

/-- The record's class is undefined (06 R109, check 3). -/
def offendsNoClass (defined : List Bool) (_ : List PinRecord) (p : PinRecord) : Bool :=
  !defined.getD p.cls false

/-- An earlier record of the cohort names a different class (06 R109, check 4). -/
def offendsMixed (earlier : List PinRecord) (p : PinRecord) : Bool :=
  earlier.any fun q => q.sameCohort p && q.cls != p.cls

/-- The record is the 33rd or a later one of its cohort (06 R109, check 5). -/
def offendsCohortSize (earlier : List PinRecord) (p : PinRecord) : Bool :=
  32 ≤ earlier.countP fun q => q.sameCohort p

/-- The record is the 65th or a later one of its segment (06 R109, check 6). -/
def offendsSegLoad (earlier : List PinRecord) (p : PinRecord) : Bool :=
  64 ≤ earlier.countP fun q => q.segment == p.segment

/-- The first of the six checks that finds an offending record, with its status and the record's
index (06 R109). -/
def Commit.refusal (c : Commit) : Option (Status × Nat) :=
  if c.list.isEmpty then some (.empty, 0)
  else
    match firstOffending offendsDupPin [] 0 c.list with
    | some i => some (.dupPin, i)
    | none =>
      match firstOffending (offendsNoClass c.defined) [] 0 c.list with
      | some i => some (.noClass, i)
      | none =>
        match firstOffending offendsMixed [] 0 c.list with
        | some i => some (.mixedCohort, i)
        | none =>
          match firstOffending offendsCohortSize [] 0 c.list with
          | some i => some (.cohortSize, i)
          | none => (firstOffending offendsSegLoad [] 0 c.list).map fun i => (.segLoad, i)

/-- Map order: by segment, then engage station, then pin number (06 R111). -/
def PinRecord.before (p q : PinRecord) : Bool :=
  p.segment < q.segment ||
    (p.segment == q.segment &&
      (p.engage < q.engage || (p.engage == q.engage && p.pin < q.pin)))

/-- Insert a record into a sorted list. -/
def insertPin (p : PinRecord) : List PinRecord → List PinRecord
  | [] => [p]
  | q :: rest => if q.before p then q :: insertPin p rest else p :: q :: rest

/-- The list sorted in map order (06 R111). -/
def sortPins (l : List PinRecord) : List PinRecord := l.foldr insertPin []

/-- An accepted commit installs the sorted list, sets map-valid, empties the staging list and makes
the results invalid (06 R111). Nothing formed from the former map stays in the engine (07 R123,
08 R155). -/
def installMap (list : List PinRecord) (s : State) : State :=
  ((invalidateResults s).onEngine fun e => { e with work := WorkTable.empty }).onMap fun m =>
    { m with active := sortPins list, valid := true, staging := [], commit := none }

/-- The reply at the end of a commit is placed while MAP_COMMIT still holds the buffer; after a
link reset it does not, and no reply is queued (06 R112). -/
def commitReply (status : Status) (detail : List Byte) (s : State) : State :=
  if s.link.buffer = .mapCommit then
    place (.made (replyTo Request.mapCommit.kind status detail)) s
  else s

/-- What the close of a commit does in the map unit: refused, everything is left as it stood, else
the map is installed (06 R109 to R111). -/
def closeCommit (c : Commit) (s : State) : State :=
  match c.refusal with
  | some _ => s.onMap fun m => { m with commit := none }
  | none => installMap c.list s

/-- The status and detail a commit ends with (06 R109, R111). -/
def Commit.answer (c : Commit) : Status × List Byte :=
  match c.refusal with
  | some (status, i) => (status, u16 i)
  | none => (.ok, u16 c.list.length)

/-- The end of the commit in progress (06 R109 to R112). The map cannot change from READY through
EVALUATE (06 R113), where no commit is in progress, since an accepted ARM finds one ended; the event
then cannot occur (logs 4 and 38). -/
def commitEnd (s : State) : State :=
  match s.map.commit with
  | none => s
  | some c =>
    if s.stroke.state.idle then commitReply c.answer.1 c.answer.2 (closeCommit c s) else s

/-- The state an accepted ARM acts on: a commit that a link reset has left running has come to its
close, so that the map of the stroke is the one that stands until the evaluation ends (06 R112, R113;
log 38). -/
def commitClosed (s : State) : State :=
  match s.map.commit with
  | none => s
  | some c => closeCommit c s

/-- MAP_READ: FIELD for a first index above 2047 or a count not within 1 to 40, otherwise the
window of the active map as it stands (06 R114), also while a commit that a link reset has left
running has not yet ended (log 41). -/
def serveMapRead (first : BitVec 16) (count : Byte) (s : State) : State × Answer :=
  if 2047 < first.toNat || count.toNat == 0 || 40 < count.toNat then (s, .refusal .field)
  else (s, .okWith (mapBody s.map first.toNat count.toNat))

/-- An accepted SET_CLASS (06 R119): the record is written; valid results become invalid when it was
undefined or a value changes. -/
def acceptClass (n : Nat) (c : WindowClass) (s : State) : State :=
  if s.map.classAt n = some c then s
  else (invalidateResults s).onMap fun m => { m with classes := m.classes.set n (some c) }

/-- SET_CLASS: STATE outside DISARMED and COMPLETE, FIELD with the index of the first field that
fails, otherwise accepted (06 R118). -/
def serveSetClass (w : ClassWire) (s : State) : State × Answer :=
  if !s.stroke.state.idle then (s, .refusal .state)
  else
    match firstFailing w.fails with
    | some i => (s, .reply .field (u8 i))
    | none => (acceptClass w.number.toNat w.record s, .ok)

/-- GET_CLASS: FIELD for a number above 7, otherwise the record (06 R120). -/
def serveGetClass (number : Byte) (s : State) : State × Answer :=
  if 7 < number.toNat then (s, .refusal .field)
  else (s, .okWith (classBody number.toNat (s.map.classAt number.toNat)))

/-- MAP_BEGIN. -/
def execMapBegin (s : State) : Host.Outcome State Fault Refusal :=
  request .mapBegin serveMapBegin s

/-- MAP_ADD. -/
def execMapAdd (records : List PinWire) (s : State) : Host.Outcome State Fault Refusal :=
  request (.mapAdd records) (serveMapAdd records) s

/-- MAP_COMMIT. -/
def execMapCommit (s : State) : Host.Outcome State Fault Refusal :=
  request .mapCommit serveMapCommit s

/-- MAP_COMMIT_COMPLETION: the end of the commit in progress; without one nothing ends (log 4). -/
def execMapCommitCompletion (s : State) : Host.Outcome State Fault Refusal := live commitEnd s

/-- MAP_READ. -/
def execMapRead (first : BitVec 16) (count : Byte) (s : State) :
    Host.Outcome State Fault Refusal :=
  request (.mapRead first count) (serveMapRead first count) s

/-- SET_CLASS. -/
def execSetClass (w : ClassWire) (s : State) : Host.Outcome State Fault Refusal :=
  request (.setClass w) (serveSetClass w) s

/-- GET_CLASS. -/
def execGetClass (number : Byte) (s : State) : Host.Outcome State Fault Refusal :=
  request (.getClass number) (serveGetClass number) s

end Sys2Proof.Machine
end

