-- ==== Sys2Proof/Machine/RecordRequests.lean ====
section
/-! DEFINITION. The requests that read the records of a stroke (08 R151 to R158): PROFILE_READ,
RESULT_READ, RESULT_SUMMARY. -/

namespace Sys2Proof.Machine

/-- PROFILE_READ: FIELD for a selector above 64, a first station above 1023 or a count not within 1
to 80, otherwise the window of the profile store (08 R151). -/
def serveProfileRead (selector : Byte) (first : BitVec 16) (count : Byte) (s : State) :
    State × Answer :=
  if 64 < selector.toNat || 1023 < first.toNat || count.toNat == 0 || 80 < count.toNat then
    (s, .refusal .field)
  else (s, .okWith (profileBody s.profile selector.toNat first.toNat count.toNat))

/-- The stroke number a RESULT_READ reply names: that of the summary (08 R156). -/
def Engine.number (e : Engine) : BitVec 16 := (e.summary.map Summary.number).getD 0

/-- RESULT_READ: BUSY while the engine runs, NO_RESULTS, FIELD, in this order (08 R156). -/
def serveResultRead (first : BitVec 16) (count : Byte) (s : State) : State × Answer :=
  if s.engine.run.isSome then (s, .refusal .busy)
  else if !s.engine.valid then (s, .refusal .noResults)
  else if 2047 < first.toNat || count.toNat == 0 || 24 < count.toNat then (s, .refusal .field)
  else (s, .okWith (resultBody s.engine.number s.engine.results first.toNat count.toNat))

/-- RESULT_SUMMARY: BUSY while the engine runs, NO_RESULTS while the results are invalid, otherwise
the summary (08 R158). Valid results always have a summary (07 R146). -/
def serveResultSummary (s : State) : State × Answer :=
  if s.engine.run.isSome then (s, .refusal .busy)
  else if !s.engine.valid then (s, .refusal .noResults)
  else
    match s.engine.summary with
    | some m => (s, .okWith (summaryBody m))
    | none => (s, .refusal .noResults)

/-- PROFILE_READ. -/
def execProfileRead (selector : Byte) (first : BitVec 16) (count : Byte) (s : State) :
    Host.Outcome State Fault Refusal :=
  request (.profileRead selector first count) (serveProfileRead selector first count) s

/-- RESULT_READ. -/
def execResultRead (first : BitVec 16) (count : Byte) (s : State) :
    Host.Outcome State Fault Refusal :=
  request (.resultRead first count) (serveResultRead first count) s

/-- RESULT_SUMMARY. -/
def execResultSummary (s : State) : Host.Outcome State Fault Refusal :=
  request .resultSummary serveResultSummary s

end Sys2Proof.Machine
end

