-- ==== Sys2Proof/Machine/StrokeRequests.lean ====
section
/-! DEFINITION. The stroke controller's requests (04 R62 to R65, R75): SET_STROKE, GET_STROKE, ARM,
DISARM, ABORT. -/

namespace Sys2Proof.Machine

/-- An accepted SET_STROKE (04 R62): the set is replaced, params-valid set, valid results made
invalid when a field changes; a change of the home zone is an event of home (04 R57). -/
def acceptParams (p : Params) (s : State) : State :=
  let t := s.onStroke fun k => { k with params := p, paramsValid := true }
  let t := if p = s.stroke.params then t else invalidateResults t
  homeChange s.home t

/-- SET_STROKE: STATE outside DISARMED and COMPLETE, FIELD with the index of the first field that
fails, otherwise accepted (04 R62). -/
def serveSetStroke (w : StrokeWire) (s : State) : State × Answer :=
  if !s.stroke.state.idle then (s, .refusal .state)
  else
    match firstFailing w.fails with
    | some i => (s, .reply .field (u8 i))
    | none => (acceptParams w.params s, .ok)

/-- GET_STROKE is answered with the seventeen fields and params-valid (04 R63). -/
def serveGetStroke (s : State) : State × Answer :=
  (s, .okWith (paramsBody s.stroke.params ++ u8 (bit s.stroke.paramsValid)))

/-- A segment that holds back ARM: enabled, not masked, carrying a pin, status not OK
(04 R64, 06 R116). -/
def holdsBackArm (s : State) (n : Nat) : Bool :=
  let g := s.acq.seg n
  g.enabled && !g.masked && decide (1 ≤ s.map.load n) && g.status != .ok

/-- The lowest-numbered segment that holds back ARM (04 R64). -/
def firstNotOk (s : State) : Option Nat := (List.range Config.segments).find? (holdsBackArm s)

/-- The reason code and segment of the first precondition of ARM that fails (04 R64, 10 R183). -/
def armRefusal (s : State) : Option (Nat × Option Nat) :=
  if s.guard.lockout.latched then some (1, none)
  else if s.cal.run.isSome then some (2, none)
  else if !s.stroke.paramsValid then some (3, none)
  else if !s.map.valid then some (4, none)
  else if !s.homeAssigned && !s.pos.referenced then some (5, none)
  else if !s.cal.tareValid then some (6, none)
  else
    match firstNotOk s with
    | some n => some (7, some n)
    | none =>
      if !s.home then some (8, none)
      else if !s.guardOk then some (9, none)
      else none

/-- ARM: STATE outside DISARMED and COMPLETE, NOT_READY with the first precondition that fails,
otherwise READY (04 R64). A refused ARM changes nothing (02 R26, 04 R64): a commit that a link reset
has left running runs on. An accepted ARM finds such a commit ended (06 R113), and one that the map it
installs would refuse is refused with that reason (log 38). -/
def serveArm (s : State) : State × Answer :=
  if !s.stroke.state.idle then (s, .refusal .state)
  else
    match (armRefusal s).or (armRefusal (commitClosed s)) with
    | some (reason, segment) => (s, .reply .notReady (u8 reason ++ segmentField segment))
    | none => (enterState .ready (commitClosed s), .ok)

/-- DISARM (04 R65). -/
def serveDisarm (s : State) : State × Answer :=
  match s.stroke.state with
  | .ready | .complete => (disarm s, .ok)
  | .disarmed => (s, .ok)
  | .approach | .capture | .hold | .halted | .retract | .evaluate => (s, .refusal .state)

/-- ABORT (04 R75). -/
def serveAbort (s : State) : State × Answer :=
  match s.stroke.state with
  | .approach | .capture | .hold => (halt .aborted s, .ok)
  | .ready => (disarm s, .ok)
  | .disarmed | .halted | .retract | .evaluate | .complete => (s, .refusal .state)

/-- SET_STROKE. -/
def execSetStroke (w : StrokeWire) (s : State) : Host.Outcome State Fault Refusal :=
  request (.setStroke w) (serveSetStroke w) s

/-- GET_STROKE. -/
def execGetStroke (s : State) : Host.Outcome State Fault Refusal :=
  request .getStroke serveGetStroke s

/-- ARM. -/
def execArm (s : State) : Host.Outcome State Fault Refusal := request .arm serveArm s

/-- DISARM. -/
def execDisarm (s : State) : Host.Outcome State Fault Refusal := request .disarm serveDisarm s

/-- ABORT. -/
def execAbort (s : State) : Host.Outcome State Fault Refusal := request .abort serveAbort s

end Sys2Proof.Machine
end

