-- ==== Sys2Proof/Machine/Serve.lean ====
section
/-! DEFINITION. The owner of every request (10 R179, R182), and what the link unit does with a good
frame that enters the receive buffer. -/

namespace Sys2Proof.Machine

/-- The immediate action and the answer of a request's owner. -/
def serve : Request → State → State × Answer
  | .ping => servePing
  | .status => serveStatus
  | .countersRead => serveCountersRead
  | .setLink interval => serveSetLink interval
  | .toolReset => serveToolReset
  | .setSense period => serveSetSense period
  | .setSegment w => serveSetSegment w
  | .getSegment segment => serveGetSegment segment
  | .snapshot => serveSnapshot
  | .tare => serveTare
  | .shuntCheck selection => serveShuntCheck selection
  | .setStroke w => serveSetStroke w
  | .getStroke => serveGetStroke
  | .arm => serveArm
  | .disarm => serveDisarm
  | .abort => serveAbort
  | .lockoutRead => serveLockoutRead
  | .lockoutClear => serveLockoutClear
  | .mapBegin => serveMapBegin
  | .mapAdd records => serveMapAdd records
  | .mapCommit => serveMapCommit
  | .mapRead first count => serveMapRead first count
  | .setClass w => serveSetClass w
  | .getClass number => serveGetClass number
  | .profileRead selector first count => serveProfileRead selector first count
  | .resultRead first count => serveResultRead first count
  | .resultSummary => serveResultSummary
  | .setLines records => serveSetLines records
  | .writeLines values => serveWriteLines values
  | .readLines => serveReadLines

/-- A good frame in the receive buffer (10 R182): KIND with the kind byte received, LENGTH, or the
request handed to its owner. -/
def serveFrame (kind : Byte) (payload : List Byte) (s : State) : State × Answer :=
  match decodeRequest kind payload with
  | .request r => serve r s
  | .badKind => (s, .reply .kind [kind])
  | .badLength => (s, .refusal .length)

end Sys2Proof.Machine
end

