-- ==== Sys2Proof/Machine/LinkEvents.lean ====
section
/-! DEFINITION. The events of the link (10 R180 to R193): a byte taken, the end of a frame, a bad
length, the two gaps, a frame sent to its end, a deferred reply, the watchdog, the break, and the
tool reset that a TOOL_RESET makes. -/

namespace Sys2Proof.Machine

/-! ### The receiver (10 R180, R181) -/

/-- Set the receiver's state. -/
def setReceiver (r : Receiver) (s : State) : State := s.onLink fun l => { l with receiver := r }

/-- A frame is dropped for its length or its check: the receiver enters DISCARD and the CRC error
counter is increased (10 R180, R181). -/
def discardFrame (s : State) : State :=
  s.onLink fun l => { l with receiver := .discard, crcErrors := satSucc 65535 l.crcErrors }

/-- A good frame is offered to the receive buffer by its kind and payload (10 R181). -/
def offerFrame (taken : List Byte) (s : State) : State :=
  match taken with
  | [] => s
  | kind :: payload => offer kind (serveFrame kind payload) s

/-- The second check byte completes a frame, judged by its check (10 R181). -/
def frameComplete (length : Byte) (taken : List Byte) (received : BitVec 16) (s : State) :
    State :=
  if received = crc (length :: taken) then offerFrame taken (setReceiver .seek s)
  else discardFrame s

/-- One byte taken in HEADER (10 R180). -/
def takeHeader (b : Byte) (s : State) : State :=
  if badLengthByte b then discardFrame s else setReceiver (.body b []) s

/-- One byte taken in BODY: CHECK follows when the length has been reached (10 R180). -/
def takeBody (length : Byte) (taken : List Byte) (b : Byte) (s : State) : State :=
  let t := taken ++ [b]
  if t.length < length.toNat then setReceiver (.body length t) s
  else setReceiver (.check length t none) s

/-- One byte taken in the state the receiver is in (10 R180). -/
def takeByte (b : Byte) (s : State) : State :=
  match s.link.receiver with
  | .seek => if b = 0x7E#8 then setReceiver .header s else s
  | .header => takeHeader b s
  | .body length taken => takeBody length taken b s
  | .check length taken none => setReceiver (.check length taken (some b)) s
  | .check length taken (some c) => frameComplete length taken (word2 c b) s
  | .discard => s

/-- The second check byte of a frame; in any other state of the receiver no frame is complete
(log 4). -/
def frameReceived (check : Byte) (s : State) : State :=
  match s.link.receiver with
  | .check length taken (some c) => frameComplete length taken (word2 c check) s
  | .check _ _ none | .seek | .header | .body _ _ | .discard => s

/-- A bad length byte taken in HEADER (10 R180); otherwise there is no such error (log 4). -/
def headerLengthError (b : Byte) (s : State) : State :=
  match s.link.receiver with
  | .header => if badLengthByte b then discardFrame s else s
  | .seek | .body _ _ | .check _ _ _ | .discard => s

/-- A gap of more than 16 character times inside a frame: the partial frame is dropped and counted
(10 R180). -/
def frameTimeout (s : State) : State :=
  match s.link.receiver with
  | .header | .body _ _ | .check _ _ _ =>
    s.onLink fun l => { l with receiver := .seek, timeouts := satSucc 65535 l.timeouts }
  | .seek | .discard => s

/-- A gap of 16 character times in DISCARD (10 R180). -/
def discardGapEnd (s : State) : State :=
  match s.link.receiver with
  | .discard => setReceiver .seek s
  | .seek | .header | .body _ _ | .check _ _ _ => s

/-! ### The transmitter (10 R184, R191) -/

/-- The frame whose last check byte has been sent was the OK of a pending TOOL_RESET. -/
def OutFrame.makesReset : OutFrame → Bool
  | .reply r => r.resets
  | .report _ => false

/-- The last check byte of the frame in transmission has been sent: the transmitter is free and
chooses again, replies first; after the OK of a pending TOOL_RESET the tool reset is due before it
chooses (10 R184, R191). -/
def frameTransmitted (s : State) : State :=
  match s.link.sending with
  | none => s
  | some f =>
    let s := s.onLink fun l => { l with sending := none }
    if f.makesReset then s.withDue (s.due ++ [.toolReset]) else transmit false s

/-! ### The watchdog (10 R187) -/

/-- The expiry of the running watchdog timer (10 R187). -/
def watchdogExpiry (s : State) : State :=
  match s.link.watchdog with
  | none => s
  | some _ =>
    if s.link.expiries = 0 then
      post (linkQuiet s.stroke.number s.link.interval)
        (s.onLink fun l => { l with expiries := 1, watchdog := some l.interval })
    else halt .linkLost (stopWatchdog s)

/-! ### The break (10 R192) -/

/-- A report is cut off in transmission and lost (10 R192). -/
def OutFrame.isReport : OutFrame → Bool
  | .report _ => true
  | .reply _ => false

/-- A link reset (10 R192): receiver to SEEK, buffer and reply queue emptied, the frame in
transmission cut off, a report cut off counted as lost. -/
def linkReset (s : State) : State :=
  s.onLink fun l =>
    { l with
      receiver := .seek, buffer := .empty, replies := [], sending := none
      lost := if l.sending.any OutFrame.isReport then satSucc 65535 l.lost else l.lost }

/-! ### Meanings -/

/-- BYTE_TAKEN. -/
def execByteTaken (b : Byte) (s : State) : Host.Outcome State Fault Refusal := live (takeByte b) s

/-- FRAME_RECEIVED. -/
def execFrameReceived (check : Byte) (s : State) : Host.Outcome State Fault Refusal :=
  live (frameReceived check) s

/-- HEADER_LENGTH_ERROR. -/
def execHeaderLengthError (b : Byte) (s : State) : Host.Outcome State Fault Refusal :=
  live (headerLengthError b) s

/-- FRAME_TIMEOUT. -/
def execFrameTimeout (s : State) : Host.Outcome State Fault Refusal := live frameTimeout s

/-- DISCARD_GAP_END. -/
def execDiscardGapEnd (s : State) : Host.Outcome State Fault Refusal := live discardGapEnd s

/-- DEFERRED_REPLY_PLACED (10 R182). -/
def execDeferredReplyPlaced (s : State) : Host.Outcome State Fault Refusal :=
  liveDue (fun d => d == .deferredReply) s

/-- FRAME_TRANSMITTED. -/
def execFrameTransmitted (s : State) : Host.Outcome State Fault Refusal := live frameTransmitted s

/-- WATCHDOG_EXPIRY. -/
def execWatchdogExpiry (s : State) : Host.Outcome State Fault Refusal := live watchdogExpiry s

/-- LINK_RESET. -/
def execLinkReset (s : State) : Host.Outcome State Fault Refusal := live linkReset s

/-- TOOL_RESET_ACTS (10 R191). -/
def execToolResetActs (s : State) : Host.Outcome State Fault Refusal :=
  liveDue (fun d => d == .toolReset) s

end Sys2Proof.Machine
end

