-- ==== Sys2Proof/Machine/ResetEvents.lean ====
section
/-! DEFINITION. The events of RESET_N and of the supply monitor (09 R175, 10 R193): the tool reset
by a short pulse, power-on reset taking hold, and its release. -/

namespace Sys2Proof.Machine

/-- The rising edge that ends a low pulse: a tool reset when the pulse lasted 10 µs or more and less
than 10 ms; a shorter pulse is ignored, and one of 10 ms is a power-on reset, which POWER_ON_RESET
and POWER_ON_RESET_RELEASE stand for (09 R175; log 27). -/
def resetPulse (lowMicros : Nat) (s : State) : State :=
  if toolResetPulseOk lowMicros then toolReset s else s

/-- Power-on reset takes hold: every block has its power-on values, and the part is held
(09 R175, 10 R193; log 20). Bytes are taken and sent until this moment, also in the low pulse on
RESET_N that leads to it (log 40). -/
def powerOnHold (s : State) : State :=
  { State.released Straps.allLow with
    held := true, freeCount := s.freeCount, pending := s.pending }

/-- Power-on reset is released: the straps and the encoder levels are sampled and the part starts
afresh (03 R40, 10 R176). -/
def powerOnRelease (w : Straps) (s : State) : State :=
  { State.released w with freeCount := s.freeCount, pending := s.pending }

/-- RESET_N_TOOL_RESET. -/
def execResetNToolReset (lowMicros : Nat) (s : State) : Host.Outcome State Fault Refusal :=
  live (resetPulse lowMicros) s

/-- POWER_ON_RESET: taken in every state, whatever is due. -/
def execPowerOnReset (s : State) : Host.Outcome State Fault Refusal := .next (powerOnHold s)

/-- POWER_ON_RESET_RELEASE; a part that is not held has no reset to release (log 4). -/
def execPowerOnResetRelease (w : Straps) (s : State) : Host.Outcome State Fault Refusal :=
  .next (if s.held then powerOnRelease w s else settle s)

end Sys2Proof.Machine
end

