-- ==== Sys2Proof/Machine/RoundEvents.lean ====
section
/-! DEFINITION. The close of a conversion round (01 R3 to R10, 02 R28, R31, R32, 05 R87 to R89) and
the steps a close makes due: SETTLE_END, TRIP_SEGMENT, TRIP_TOTAL, OVERRANGE_EVENT,
BOTTOM_RAIL_PAIR, TARE_COMPLETION, SHUNT_WAIT_END, SHUNT_GROUP_JUDGED. -/

namespace Sys2Proof.Machine

/-! ### Rail detection (01 R9, R10) -/

/-- A pair count after a close: an enabled segment at the rail counts up to 2, one off it goes to 0;
a disabled segment takes no part. -/
def pairCount (enabled atRail : Bool) (n : Nat) : Nat :=
  if !enabled then n else if atRail then satSucc 2 n else 0

/-- The pair counts of a rail after a close. -/
def pairCounts (segs : List Segment) (set : SampleSet) (rail : Sample → Bool) (counts : List Nat) :
    List Nat :=
  counts.mapIdx fun n c =>
    pairCount (segs.getD n Segment.initial).enabled (rail (set.at n)) c

/-- The segments whose count becomes 2 at a close, from 1, in ascending order. -/
def reachedPair (before after : List Nat) : List Nat :=
  (List.range Config.segments).filter fun n => before.getD n 0 == 1 && after.getD n 0 == 2

/-- The acquisition unit at the close of a round that is not a settle round: pair counts advance and
the set is published (01 R5, R9, R10). -/
def Acq.publish (set : SampleSet) (a : Acq) : Acq :=
  { a with latest := set, published := some set
           topPairs := pairCounts a.segs set Sample.atTop a.topPairs
           bottomPairs := pairCounts a.segs set Sample.atBottom a.bottomPairs }

/-- The bottom-rail pairs a close completes, of segments not OPEN already (01 R10). -/
def bottomDues (before after : Acq) : List Due :=
  ((reachedPair before.bottomPairs after.bottomPairs).filter fun n =>
    (before.seg n).status != .opened).map Due.bottomRail

/-- The overrange events a close hands on (01 R9). -/
def overrangeDues (before after : Acq) : List Due :=
  (reachedPair before.topPairs after.topPairs).map Due.overrange

/-! ### Trip examination (05 R87 to R89) -/

/-- A persistence count after an examined publication (05 R88, R89). -/
def persistCount (exceeds : Bool) (n : Nat) : Nat := if exceeds then satSucc 16 n else 0

/-- A segment's force exceeds its trip limit; a disabled segment is not examined (05 R88). -/
def exceedsLimit (g : Segment) (x : Sample) : Bool :=
  g.enabled && decide ((g.tripLimit : Int) < x.force)

/-- The guard unit after an examined publication. -/
def Guard.examine (segs : List Segment) (set : SampleSet) (totalLimit : Nat) (g : Guard) : Guard :=
  { g with
    segPersist := g.segPersist.mapIdx fun n c =>
      persistCount (exceedsLimit (segs.getD n Segment.initial) (set.at n)) c
    totalPersist := persistCount (decide ((totalLimit : Int) < set.total)) g.totalPersist }

/-- The lowest segment whose count, raised by this publication, has reached ns (05 R88). -/
def tripSegmentOf (a : Acq) (set : SampleSet) (ns : Nat) (counts : List Nat) : Option Nat :=
  (List.range Config.segments).find? fun n =>
    exceedsLimit (a.seg n) (set.at n) && decide (ns ≤ counts.getD n 0)

/-- The trip an examined publication gives, with what it carries (05 R88, R89). -/
def tripDues (p : Params) (a : Acq) (set : SampleSet) (after : Guard) : List Due :=
  match tripSegmentOf a set p.segPersistence after.segPersist with
  | some n => [.tripSegment n (set.at n).force]
  | none =>
    if decide ((p.totalLimit : Int) < set.total) && decide (p.totalPersistence ≤ after.totalPersist)
    then [.tripTotal set.total] else []

/-- Trips are examined: APPROACH, CAPTURE or HOLD, and none given yet (05 R87). -/
def State.examinesTrips (s : State) : Bool := s.stroke.state.guarded && !s.guard.tripGiven

/-! ### The running calibration operation (02 R27, R28, R31, R32) -/

/-- The segments whose samples a round of AVERAGE adds: all participants of a TARE, those of the
current group of a SHUNT_CHECK. -/
def CalRun.averaged (r : CalRun) : List Nat :=
  match r.job with
  | .tare => r.participants
  | .shunt j =>
    match j.groups with
    | g :: _ => r.participants.filter fun n => n / 16 == g
    | [] => []

/-- What a round adds to a segment's sum: the raw code in a TARE, the force in a SHUNT_CHECK. -/
def CalRun.addend (r : CalRun) (x : Sample) : Int :=
  match r.job with
  | .tare => x.raw.getD 0
  | .shunt _ => x.force

/-- A sample at either rail. -/
def Sample.railed (x : Sample) : Bool := x.atTop || x.atBottom

/-- A round of AVERAGE (02 R28, R32). -/
def CalRun.average (set : SampleSet) (r : CalRun) : CalRun :=
  { r with
    rounds := r.rounds + 1
    sums := r.sums.mapIdx fun n x =>
      if r.averaged.contains n then x + r.addend (set.at n) else x
    rails := r.rails.mapIdx fun n b =>
      b || (r.averaged.contains n && (set.at n).railed) }

/-- The operation after a close with the settle count at zero. -/
def CalRun.close (set : SampleSet) (r : CalRun) : CalRun :=
  match r.phase with
  | .waitSettle => r
  | .shuntWait => { r with rounds := r.rounds + 1 }
  | .average => r.average set

/-- The step an operation's new round count makes due: the end of SHUNT_WAIT at 8, the completion or
the judgement at 16 (02 R28, R31). -/
def CalRun.dues (r : CalRun) : List Due :=
  match r.phase, r.job with
  | .waitSettle, _ => []
  | .shuntWait, _ => listIf (r.rounds == 8) .shuntWaitEnd
  | .average, .tare => listIf (r.rounds == 16) .tareCompletion
  | .average, .shunt _ => listIf (r.rounds == 16) .shuntGroupJudged

/-- The steps the running operation makes due. -/
def Cal.dues (c : Cal) : List Due :=
  match c.run with
  | some r => r.dues
  | none => []

/-! ### The close (01 R3 to R5) -/

/-- A running operation waits for the end of the settle (02 R27). -/
def Cal.awaitsSettle (c : Cal) : Bool := c.run.any fun r => r.phase == .waitSettle

/-- The close of a settle round: nothing is published, and at the last one SETTLE_END is due for an
operation that waits (01 R4, 02 R27). -/
def settleRound (set : SampleSet) (s : State) : State :=
  let left := s.acq.settleCount - 1
  let s := s.onAcq fun a => { a with latest := set, settleCount := left }
  s.withDue (s.due ++ listIf (left == 0 && s.cal.awaitsSettle) .settleEnd)

/-- The trip examination of a publication (05 R87 to R89). -/
def examineTrips (set : SampleSet) (s : State) : State :=
  s.onGuard (Guard.examine s.acq.segs set s.stroke.params.totalLimit)

/-- The close of any other round: publication, rail detection, trip examination, and the running
operation's round. The bottom-rail pairs, overrange events and trip that fall together at the close
are taken in a free order (log 7), the operation's own end after them (log 34). -/
def publishRound (set : SampleSet) (s : State) : State :=
  let before := s.acq
  let s := (s.onAcq (Acq.publish set)).onPos fun p => { p with roundSinceLatch := true }
  let examines := s.examinesTrips
  let s := if examines then examineTrips set s else s
  let s := s.onCal fun c => { c with run := c.run.map (CalRun.close set) }
  let bottoms := bottomDues before s.acq
  let overs := overrangeDues before s.acq
  let trips := if examines then tripDues s.stroke.params s.acq set s.guard else []
  let t := s.withDue (s.due ++ inFreeOrder s.freeCount bottoms overs trips ++ s.cal.dues)
  tickIfOrdered bottoms overs trips t

/-- A SNAPSHOT waits for its answer, a free transmitter has nothing to send, and this close has made
steps due: the reply and a report of these steps enter empty queues at one instant, in either order
(10 R184, log 35). -/
def State.snapshotTies (s : State) : Bool :=
  s.link.buffer == .snapshot && s.link.sending.isNone && s.link.replies.isEmpty &&
    s.link.reports.isEmpty && !s.due.isEmpty

/-- A SNAPSHOT is answered at this close (01 R19): its reply goes before the reports of the steps the
close has made due, or, where either may be first, by a free choice behind them (10 R184, log 35). -/
def closeSnapshot (s : State) : State :=
  if s.snapshotTies then
    if Config.reportFirst s.freeCount then (s.withDue (s.due ++ [.snapshotReply])).tickFree
    else (answerSnapshot s).tickFree
  else answerSnapshot s

/-- The close of a conversion round (01 R3). -/
def roundClose (bridges : List Int) (s : State) : State :=
  let set := sampleSet s.acq bridges
  closeSnapshot (if 0 < s.acq.settleCount then settleRound set s else publishRound set s)

/-! ### Meanings -/

/-- CONVERSION_ROUND_CLOSE. Which of a SNAPSHOT's reply and the SEGMENT_EVENT, LOCKOUT, STROKE_EVENT
or CAL_DONE that the same close makes due goes out first is free (10 R184, log 35). -/
def execConversionRoundClose (bridges : List Int) (s : State) :
    Host.Outcome State Fault Refusal :=
  live (roundClose bridges) s

/-- A due step is the end of a settle. -/
def Due.isSettleEnd (d : Due) : Bool := d == .settleEnd

/-- A due step is a segment trip. -/
def Due.isTripSegment : Due → Bool
  | .tripSegment _ _ => true
  | .settleEnd | .tripTotal _ | .overrange _ | .bottomRail _ | .tareCompletion | .shuntWaitEnd
  | .shuntGroupJudged | .overtravel | .deferredReply | .toolReset | .snapshotReply => false

/-- A due step is a total trip. -/
def Due.isTripTotal : Due → Bool
  | .tripTotal _ => true
  | .settleEnd | .tripSegment _ _ | .overrange _ | .bottomRail _ | .tareCompletion
  | .shuntWaitEnd | .shuntGroupJudged | .overtravel | .deferredReply | .toolReset
  | .snapshotReply => false

/-- SETTLE_END (02 R27). -/
def execSettleEnd (s : State) : Host.Outcome State Fault Refusal := liveDue Due.isSettleEnd s

/-- TRIP_SEGMENT (05 R88). -/
def execTripSegment (s : State) : Host.Outcome State Fault Refusal := liveDue Due.isTripSegment s

/-- TRIP_TOTAL (05 R89). -/
def execTripTotal (s : State) : Host.Outcome State Fault Refusal := liveDue Due.isTripTotal s

/-- OVERRANGE_EVENT (05 R91). -/
def execOverrangeEvent (segment : Fin 64) (s : State) : Host.Outcome State Fault Refusal :=
  liveDue (fun d => d == .overrange segment.val) s

/-- BOTTOM_RAIL_PAIR (01 R10). -/
def execBottomRailPair (segment : Fin 64) (s : State) : Host.Outcome State Fault Refusal :=
  liveDue (fun d => d == .bottomRail segment.val) s

/-- TARE_COMPLETION (02 R29). -/
def execTareCompletion (s : State) : Host.Outcome State Fault Refusal :=
  liveDue (fun d => d == .tareCompletion) s

/-- SHUNT_WAIT_END (02 R31). -/
def execShuntWaitEnd (s : State) : Host.Outcome State Fault Refusal :=
  liveDue (fun d => d == .shuntWaitEnd) s

/-- SHUNT_GROUP_JUDGED (02 R33). -/
def execShuntGroupJudged (s : State) : Host.Outcome State Fault Refusal :=
  liveDue (fun d => d == .shuntGroupJudged) s

end Sys2Proof.Machine
end

