-- ==== Sys2Proof/Machine/StrokeEvents.lean ====
section
/-! DEFINITION. The events of the ram and of the stroke's timers: ENCODER_COUNT, ENCODER_FAULT,
REFERENCE_PULSE (chapter 3), OVERTRAVEL (05 R93), DWELL_EXPIRY and QUIET_TIMER_EXPIRY (04 R71, R76),
EVALUATION_COMPLETION (07 R124). -/

namespace Sys2Proof.Machine

/-! ### Decoding (03 R40, R41) -/

/-- The highest value of the position counter (03 R41). -/
abbrev counterMax : Int := 8388607

/-- The lowest value of the position counter (03 R41). -/
abbrev counterMin : Int := -8388608

/-- The filtered levels after a change of one phase. -/
def Pos.flip (ph : Phase) (p : Pos) : Pos :=
  match ph with
  | .a => { p with encA := otherLevel p.encA }
  | .b => { p with encB := otherLevel p.encB }

/-- A change of one phase is one in which ENC_A leads ENC_B: A has just left B's level, or B has
just followed A to its level (log 16). -/
def Pos.aLeads (ph : Phase) (p : Pos) : Bool :=
  match ph with
  | .a => otherLevel p.encA != p.encB
  | .b => otherLevel p.encB == p.encA

/-- A change of one phase counts up, by the direction taken at power-on (03 R40). -/
def Pos.countsUp (ph : Phase) (p : Pos) : Bool :=
  match p.direction with
  | .aLeadsUp => p.aLeads ph
  | .bLeadsUp => !p.aLeads ph

/-- The counter a change of one phase would give (03 R41). -/
def Pos.counted (ph : Phase) (p : Pos) : Int :=
  if p.countsUp ph then p.counter + 1 else p.counter - 1

/-- A change of one phase would take the counter beyond its limits (03 R41). -/
def Pos.beyond (ph : Phase) (p : Pos) : Bool :=
  counterMax < p.counted ph || p.counted ph < counterMin

/-! ### Encoder fault (03 R42, R43, R47) -/

/-- The severity of an ENCODER_EVENT for a fault (03 R42). -/
def faultSeverity (k : StrokeState) : Severity := if k.inStroke then .stroke else .note

/-- An encoder fault (03 R42): referenced cleared, the report posted, the halt cause given in
APPROACH, CAPTURE and HOLD; what it does to home follows (03 R47; log 32). -/
def encoderFaultTaken (e : EncoderEvent) (s : State) : State :=
  let before := s.home
  let k := s.stroke.state
  let s := s.onPos fun p => { p with referenced := false }
  let s := post (encoderEvent (faultSeverity k) e s.pos.counter k s.stroke.number) s
  let s := if k.guarded then halt .encoderFault s else s
  homeChange before s

/-- A sample shows the transition `t` where an encoder fault is to be judged (03 R41, R42): both
phases together are illegal; one phase is a fault only beyond the limit, and is otherwise the count
that ENCODER_COUNT stands for (log 4). -/
def encoderFault (t : Transition) (s : State) : State :=
  match t with
  | .both => encoderFaultTaken .transition (s.onPos fun p => (p.flip .a).flip .b)
  | .one ph =>
    if s.pos.beyond ph then encoderFaultTaken .limit (s.onPos (Pos.flip ph)) else s

/-! ### A count (03 R41, R48, R49, 04 R66, R68) -/

/-- What a count does in the part once the counter has moved: home, then CAPTURE entry when the
count was taken in APPROACH and found P0 or beyond (04 R68; log 13), then the latching test. -/
def countTaken (before : Bool) (wasApproach : Bool) (s : State) : State :=
  let s := homeChange before s
  if wasApproach && s.stroke.state == .approach &&
      decide ((s.stroke.params.captureStart : Int) ≤ s.pos.counter) then
    latchTest (captureEntry s)
  else latchTest s

/-- A change of one filtered phase (03 R41): one count, or a LIMIT fault. -/
def encoderCount (ph : Phase) (s : State) : State :=
  if s.pos.beyond ph then encoderFaultTaken .limit (s.onPos (Pos.flip ph))
  else
    countTaken s.home (s.stroke.state == .approach)
      (s.onPos fun p => { p.flip ph with counter := p.counted ph })

/-! ### The reference pulse (03 R44 to R46) -/

/-- The referenced counter lies outside −2 to 2 at a pulse (03 R45). -/
def Pos.slips (p : Pos) : Bool :=
  p.referenced && (decide (p.counter < -2) || decide (2 < p.counter))

/-- The severity of an ENCODER_EVENT for a slip (03 R45). -/
def slipSeverity (k : StrokeState) : Severity := if k.guarded then .stroke else .note

/-- The filtered ENC_Z goes high (03 R44, R45): the counter is 0 and referenced, and a slip is
reported with the counter before it. The report is posted before what the pulse does to home
(log 36). A pulse that finds ENC_Z still high stands for a fall and a rise (log 21). -/
def referencePulse (s : State) : State :=
  let before := s.home
  let t := s.onPos fun p => { p with counter := 0, referenced := true, encZ := .high }
  let t :=
    if s.pos.slips then
      post (encoderEvent (slipSeverity s.stroke.state) .slip s.pos.counter s.stroke.state
        s.stroke.number) t
    else t
  homeChange before t

/-- The new low level of ENC_Z is taken (03 R39), which has no other effect (03 R44). No row of the
table stands for it: while the filtered ENC_Z is high, each idle tick may find it gone low, by a free
choice (log 21). -/
def referenceFalls (s : State) : State :=
  match s.pos.encZ with
  | .low => s
  | .high =>
    (if Config.referenceFalls s.freeCount then s.onPos fun p => { p with encZ := .low } else s).tickFree

/-! ### Timers (04 R71, R76) -/

/-- The expiry of a running dwell in HOLD (04 R76). -/
def dwellExpiry (s : State) : State :=
  if s.stroke.state = .hold ∧ s.stroke.dwell.isSome then dwellExpired s else s

/-- The expiry of the running quiet timer (04 R71): in CAPTURE it is marked expired, in HOLD and
HALTED capture closes. -/
def quietTimerExpiry (s : State) : State :=
  if s.stroke.quiet = .running then
    if s.stroke.state = .capture then s.onStroke fun k => { k with quiet := .expired }
    else closeCapture s
  else s

/-! ### The completion of the evaluation (07 R124, R145, 04 R78, 09 R171) -/

/-- The result indication of a stroke result (07 R145, 09 R171). -/
def indicationOf : StrokeResult → Indication
  | .pass => .pass
  | .incomplete | .fail => .fail

/-- A running engine works through one more segment of the active map (07 R124; log 22). -/
def workOn (s : State) : State :=
  match s.engine.run with
  | none => s
  | some i => s.onEngine fun e => { e with work := e.work.advance s.map s.profile i }

/-- The engine completes (07 R124): the working table becomes the results table, the summary is
written, COMPLETE is entered, RESULT_READY posted, and PASS_OUT or FAIL_OUT driven. -/
def evaluationCompletion (s : State) : State :=
  match s.engine.run with
  | none => s
  | some i =>
    let results := s.engine.work.finish s.map s.profile i
    let summary := evaluateSummary results s.profile i
    let s := s.onEngine fun _ =>
      { run := none, work := WorkTable.empty, results := results, summary := some summary
        valid := true }
    let s := (enterState .complete s).onLines fun u =>
      { u with indication := indicationOf summary.result }
    post (resultReady summary) s

/-- The idle tick: the filtered ENC_Z may fall, and a running engine works on (logs 3, 21, 22). -/
def tick (s : State) : State := workOn (referenceFalls s)

/-! ### Meanings -/

/-- ENCODER_COUNT. -/
def execEncoderCount (ph : Phase) (s : State) : Host.Outcome State Fault Refusal :=
  live (encoderCount ph) s

/-- ENCODER_FAULT. -/
def execEncoderFault (t : Transition) (s : State) : Host.Outcome State Fault Refusal :=
  live (encoderFault t) s

/-- REFERENCE_PULSE. -/
def execReferencePulse (s : State) : Host.Outcome State Fault Refusal := live referencePulse s

/-- OVERTRAVEL (05 R93). -/
def execOvertravel (s : State) : Host.Outcome State Fault Refusal :=
  liveDue (fun d => d == .overtravel) s

/-- DWELL_EXPIRY. -/
def execDwellExpiry (s : State) : Host.Outcome State Fault Refusal := live dwellExpiry s

/-- QUIET_TIMER_EXPIRY. -/
def execQuietTimerExpiry (s : State) : Host.Outcome State Fault Refusal := live quietTimerExpiry s

/-- EVALUATION_COMPLETION. -/
def execEvaluationCompletion (s : State) : Host.Outcome State Fault Refusal :=
  live evaluationCompletion s

end Sys2Proof.Machine
end

