-- ==== Sys2Proof/Machine/Dispatch.lean ====
section
/-! DEFINITION. The dispatch: one arm per command, each a direct call of its meaning. -/

namespace Sys2Proof.Machine

/-- The effect of a command on everything but the queue of waiting commands. -/
def exec (i : Instr) (s : State) : Host.Outcome State Fault Refusal :=
  match i with
  | .ping => Sys2Proof.Machine.execPing s
  | .status => Sys2Proof.Machine.execStatus s
  | .countersRead => Sys2Proof.Machine.execCountersRead s
  | .setLink interval => Sys2Proof.Machine.execSetLink interval s
  | .toolReset => Sys2Proof.Machine.execToolReset s
  | .toolResetActs => Sys2Proof.Machine.execToolResetActs s
  | .setSense period => Sys2Proof.Machine.execSetSense period s
  | .setSegment w => Sys2Proof.Machine.execSetSegment w s
  | .getSegment segment => Sys2Proof.Machine.execGetSegment segment s
  | .snapshot => Sys2Proof.Machine.execSnapshot s
  | .tare => Sys2Proof.Machine.execTare s
  | .shuntCheck selection => Sys2Proof.Machine.execShuntCheck selection s
  | .setStroke w => Sys2Proof.Machine.execSetStroke w s
  | .getStroke => Sys2Proof.Machine.execGetStroke s
  | .arm => Sys2Proof.Machine.execArm s
  | .disarm => Sys2Proof.Machine.execDisarm s
  | .abort => Sys2Proof.Machine.execAbort s
  | .lockoutRead => Sys2Proof.Machine.execLockoutRead s
  | .lockoutClear => Sys2Proof.Machine.execLockoutClear s
  | .mapBegin => Sys2Proof.Machine.execMapBegin s
  | .mapAdd records => Sys2Proof.Machine.execMapAdd records s
  | .mapCommit => Sys2Proof.Machine.execMapCommit s
  | .mapCommitCompletion => Sys2Proof.Machine.execMapCommitCompletion s
  | .mapRead first count => Sys2Proof.Machine.execMapRead first count s
  | .setClass w => Sys2Proof.Machine.execSetClass w s
  | .getClass number => Sys2Proof.Machine.execGetClass number s
  | .profileRead selector first count => Sys2Proof.Machine.execProfileRead selector first count s
  | .resultRead first count => Sys2Proof.Machine.execResultRead first count s
  | .resultSummary => Sys2Proof.Machine.execResultSummary s
  | .setLines records => Sys2Proof.Machine.execSetLines records s
  | .writeLines values => Sys2Proof.Machine.execWriteLines values s
  | .readLines => Sys2Proof.Machine.execReadLines s
  | .frameReceived check => Sys2Proof.Machine.execFrameReceived check s
  | .headerLengthError length => Sys2Proof.Machine.execHeaderLengthError length s
  | .frameTimeout => Sys2Proof.Machine.execFrameTimeout s
  | .discardGapEnd => Sys2Proof.Machine.execDiscardGapEnd s
  | .deferredReplyPlaced => Sys2Proof.Machine.execDeferredReplyPlaced s
  | .frameTransmitted => Sys2Proof.Machine.execFrameTransmitted s
  | .watchdogExpiry => Sys2Proof.Machine.execWatchdogExpiry s
  | .linkReset => Sys2Proof.Machine.execLinkReset s
  | .resetNToolReset lowMicros => Sys2Proof.Machine.execResetNToolReset lowMicros s
  | .powerOnReset => Sys2Proof.Machine.execPowerOnReset s
  | .powerOnResetRelease straps => Sys2Proof.Machine.execPowerOnResetRelease straps s
  | .conversionRoundClose bridges => Sys2Proof.Machine.execConversionRoundClose bridges s
  | .settleEnd => Sys2Proof.Machine.execSettleEnd s
  | .tripSegment => Sys2Proof.Machine.execTripSegment s
  | .tripTotal => Sys2Proof.Machine.execTripTotal s
  | .overrangeEvent segment => Sys2Proof.Machine.execOverrangeEvent segment s
  | .bottomRailPair segment => Sys2Proof.Machine.execBottomRailPair segment s
  | .tareCompletion => Sys2Proof.Machine.execTareCompletion s
  | .shuntWaitEnd => Sys2Proof.Machine.execShuntWaitEnd s
  | .shuntGroupJudged => Sys2Proof.Machine.execShuntGroupJudged s
  | .encoderCount phase => Sys2Proof.Machine.execEncoderCount phase s
  | .encoderFault transition => Sys2Proof.Machine.execEncoderFault transition s
  | .referencePulse => Sys2Proof.Machine.execReferencePulse s
  | .overtravel => Sys2Proof.Machine.execOvertravel s
  | .dwellExpiry => Sys2Proof.Machine.execDwellExpiry s
  | .quietTimerExpiry => Sys2Proof.Machine.execQuietTimerExpiry s
  | .evaluationCompletion => Sys2Proof.Machine.execEvaluationCompletion s
  | .stopNSenseChange level => Sys2Proof.Machine.execStopNSenseChange level s
  | .readbackTimerExpiry => Sys2Proof.Machine.execReadbackTimerExpiry s
  | .lineFilterChange line level => Sys2Proof.Machine.execLineFilterChange line level s
  | .byteTaken byte => Sys2Proof.Machine.execByteTaken byte s

end Sys2Proof.Machine
end

