-- ==== Sys2Proof/Machine/Step.lean ====
section
/-! DEFINITION. One step of the block: the command at the front of the queue, or, on an empty queue,
the steps that are due or the idle tick (log 3). -/

namespace Sys2Proof.Machine

/-- Nothing waits: what is due is taken, and with nothing due the idle tick passes (log 3). A part
held in power-on reset waits (log 20). -/
def idle (s : State) : Host.Outcome State Fault Refusal :=
  .next (if s.held then s else if s.due = [] then tick s else settle s)

/-- Take the command at the front of the queue and run it over the queue's rest. -/
def step (s : State) : Host.Outcome State Fault Refusal :=
  match s.pending with
  | c :: rest => exec c { s with pending := rest }
  | [] => idle s

/-- Put the command a word spells at the front of the queue; `s` where it spells none. -/
def State.withFetchWord (s : State) (nbits w : Nat) : State :=
  match decodeTableWord nbits w with
  | some c => { s with pending := c :: s.pending }
  | none => s

end Sys2Proof.Machine
end

