-- ==== Sys2Proof/Safety.lean ====
section
/-! DEFINITION. What the claims speak of: a part ready for its next command, what a reply or a report
makes of the link, and the three conditions that every command keeps. -/

namespace Sys2Proof.Machine

/-! ### A part ready for its next command -/

/-- A free transmitter has nothing to send (10 R184). -/
def Link.fed (l : Link) : Prop := l.sending = none → l.replies = [] ∧ l.reports = []

/-- The part runs, no step is due, and a free transmitter has nothing to send. -/
structure State.Ready (s : State) : Prop where
  runs : s.held = false
  quiet : s.due = []
  fed : s.link.fed

/-- The part is ready, and a good frame finds the receive buffer empty and a place for its reply
(10 R181, R182). -/
structure State.Serving (s : State) : Prop extends State.Ready s where
  buffer : s.link.buffer = .empty
  room : s.link.replies.length < 4

/-! ### What a reply or a report makes of the link -/

/-- A good frame has restarted a running watchdog and set the expiry count to 0 (10 R187). -/
def Link.heard (l : Link) : Link :=
  { l with watchdog := l.watchdog.map fun _ => l.interval, expiries := 0 }

/-- A reply goes behind the queue, or into a free transmitter. -/
def Link.replied (r : Reply) (l : Link) : Link :=
  if l.sending.isSome then { l with replies := l.replies ++ [r] }
  else { l with sending := some (.reply r) }

/-- A report goes behind the queue by the overflow rule (10 R185), or into a free transmitter. -/
def Link.reported (r : Report) (l : Link) : Link :=
  if l.sending.isSome then l.post r else { l with sending := some (.report r) }

/-- A request of `kind` has been heard and its reply sent or queued; nothing else has changed. -/
def State.replied (kind : Byte) (status : Status) (detail : List Byte) (s : State) : State :=
  { s with
    link := s.link.heard.replied
      { kind := kind + 0x80#8, status := status, detail := detail, resets := false } }

/-- One report has been sent or queued; nothing else has changed. -/
def State.reported (r : Report) (s : State) : State := { s with link := s.link.reported r }

/-- The outcome `o` of a request of `kind` that has posted reports on the way from `s` to `u` and is
answered OK. At a free transmitter the OK and the first report go out in either order (10 R184; a free
choice, log 8). -/
def State.answersOk (kind : Byte) (s u : State) (o : Host.Outcome State Fault Refusal) : Prop :=
  let ok : Reply := { kind := kind + 0x80#8, status := .ok, detail := [], resets := false }
  (s.link.sending.isSome = true → o = .next (u.replied kind .ok [])) ∧
  (s.link.sending = none → ∃ p, u.link.sending = some (.report p) ∧
    (o = .next { u with
        freeCount := u.freeCount + 1, link := { u.link.heard with replies := [ok] } } ∨
      o = .next { u with
        freeCount := u.freeCount + 1
        link := { u.link.heard with
          sending := some (.reply ok), reports := p :: u.link.reports } }))

/-- A report stands in the queue or is in transmission. -/
def State.hasReport (r : Report) (s : State) : Prop :=
  r ∈ s.link.reports ∨ s.link.sending = some (.report r)

/-- A frame is dropped for its length or its check (10 R180, R181). -/
def State.discarded (s : State) : State :=
  { s with
    link := { s.link with
      receiver := .discard
      crcErrors := if s.link.crcErrors < 65535 then s.link.crcErrors + 1 else 65535 } }

/-! ### Runs of commands -/

/-- The commands of a list, run one after another. -/
def runAll : List Instr → State → Host.Outcome State Fault Refusal
  | [], s => .next s
  | c :: rest, s =>
    match exec c s with
    | .next t => runAll rest t
    | .fault r => .fault r
    | .refused r => .refused r

/-! ### Queues and counters -/

/-- The queues and counters of the link unit stay within their places (10 R184, R185, R189), and the
transmitter is never free while a frame waits, but for a tool reset that is due (10 R191). -/
structure State.LinkBounds (s : State) : Prop where
  replies : s.link.replies.length ≤ 4
  reports : s.link.reports.length ≤ 16
  crcErrors : s.link.crcErrors ≤ 65535
  timeouts : s.link.timeouts ≤ 65535
  overruns : s.link.overruns ≤ 65535
  lost : s.link.lost ≤ 65535
  stale : s.pos.stale ≤ 65535
  expiries : s.link.expiries ≤ 1
  fed : Due.toolReset ∈ s.due ∨ s.link.fed

/-! ### Records and ranges -/

/-- A segment record lies in the ranges of 01 R11. -/
structure Segment.InRange (g : Segment) : Prop where
  gain : 1 ≤ g.gain ∧ g.gain ≤ 65535
  offset : -16384 ≤ g.offset ∧ g.offset ≤ 16383
  shuntRef : g.shuntRef ≤ 32767
  tripLimit : 1 ≤ g.tripLimit ∧ g.tripLimit ≤ 32767

/-- A sample set holds 64 samples whose forces lie in their range, and their sum (01 R3, R6, R8). -/
structure SampleSet.InRange (set : SampleSet) : Prop where
  count : set.samples.length = 64
  force : ∀ x ∈ set.samples, -32768 ≤ x.force ∧ x.force ≤ 32767
  total : set.total = (set.samples.map Sample.force).sum

/-- The stores of the part have their shapes and ranges. -/
structure State.StoreBounds (s : State) : Prop where
  segments : s.acq.segs.length = 64
  segment : ∀ g ∈ s.acq.segs, g.InRange
  settle : s.acq.settleCount ≤ 8
  topCount : s.acq.topPairs.length = 64
  top : ∀ n ∈ s.acq.topPairs, n ≤ 2
  bottomCount : s.acq.bottomPairs.length = 64
  bottom : ∀ n ∈ s.acq.bottomPairs, n ≤ 2
  latest : s.acq.latest.InRange
  published : ∀ set, s.acq.published = some set → set.InRange
  counter : -8388608 ≤ s.pos.counter ∧ s.pos.counter ≤ 8388607
  persistCount : s.guard.segPersist.length = 64
  persist : ∀ n ∈ s.guard.segPersist, n ≤ 16
  totalPersist : s.guard.totalPersist ≤ 16
  overtravel : s.guard.overtravel ≤ 1024
  repeats : s.guard.lockout.repeats ≤ 255
  secondary : s.stroke.secondaryCount ≤ 255
  staging : s.map.staging.length ≤ 2048
  classes : s.map.classes.length = 8
  lines : s.lines.lines.length = 8

/-! ### The stroke and what hangs on it -/

/-- The STROKE reason stands in HOLD, HALTED and RETRACT (05 R83). -/
def StrokeState.stopped : StrokeState → Bool
  | .hold | .halted | .retract => true
  | .disarmed | .ready | .approach | .capture | .evaluate | .complete => false

/-- Capture is never open outside CAPTURE, HOLD and HALTED (03 R48). -/
def StrokeState.mayCapture : StrokeState → Bool
  | .capture | .hold | .halted => true
  | .disarmed | .ready | .approach | .retract | .evaluate | .complete => false

/-- The copies the position unit makes of a parameter set (03 R48). -/
def Params.copies (p : Params) : StationCopies :=
  { start := p.captureStart, pitch := p.pitch, limit := p.maxStations }

/-- The stroke state and everything that is tied to it. -/
structure State.StrokeTies (s : State) : Prop where
  /-- Only READY with the ram home, and no lockout latched (04 R64, R66, R67). -/
  ready : s.stroke.state = .ready → s.home = true ∧ s.guard.lockout.latched = false
  /-- The ram is awaited at home: being home ends the stroke (04 R77). -/
  returning : s.stroke.state.returning = true → s.home = false
  /-- STROKE is held from seating or halt to the end of the stroke (05 R83). -/
  strokeReason : s.guard.reasons.stroke = s.stroke.state.stopped
  /-- A latched lockout holds its reason, and a cleared one does not (05 R83). -/
  lockoutReason : s.guard.reasons.lockout = s.guard.lockout.latched
  /-- The readback timer is stopped exactly while the set is empty or the line reads low
  (05 R85). -/
  readback : s.guard.readback = .stopped ↔
    s.guard.reasons.isEmpty = true ∨ s.guard.sensed = .low
  /-- The engine runs exactly in EVALUATE (07 R122). -/
  engine : s.engine.run.isSome = true ↔ s.stroke.state = .evaluate
  /-- The working table is held only while the engine runs (07 R122). -/
  work : s.engine.run = none → s.engine.work = WorkTable.empty
  /-- The dwell timer runs exactly in HOLD (04 R76). -/
  dwell : s.stroke.dwell.isSome = true ↔ s.stroke.state = .hold
  /-- The watchdog runs in APPROACH and CAPTURE only (10 R187). -/
  watchdog : s.link.watchdog.isSome = true → s.stroke.state.descending = true
  /-- Capture is open throughout CAPTURE, and otherwise in HOLD and HALTED only (03 R48). -/
  capture : s.stroke.state = .capture → s.stroke.captureOpen = true
  mayCapture : s.stroke.captureOpen = true → s.stroke.state.mayCapture = true
  /-- CAPTURING is the profile condition while capture is open (08 R148). -/
  condition : s.profile.condition = .capturing ↔ s.stroke.captureOpen = true
  /-- The quiet timer is stopped exactly while capture is closed (04 R71). -/
  quiet : s.stroke.quiet = .stopped ↔ s.stroke.captureOpen = false
  /-- The copies stand as they were taken (03 R48). -/
  copies : s.stroke.captureOpen = true → s.pos.copies = some s.stroke.params.copies
  /-- The profile store holds the stations 0 to h − 1, contiguously (03 R49). -/
  stations : s.profile.records.map Station.index = List.range s.pos.high
  /-- A running operation needs the ram home and DISARMED or COMPLETE (02 R26, R37). -/
  calibration : s.cal.run.isSome = true → s.home = true ∧ s.stroke.state.idle = true
  /-- With no operation running, every group's switches are open (02 R23). -/
  switches : s.cal.run = none → s.cal.switches = [false, false, false, false]

/-! ### Vocabulary of the claims -/

/-- The payload lengths of the kinds that carry no records (10 R179). -/
def fixedLengths : List (Nat × Nat) :=
  [(0x01, 0), (0x02, 0), (0x03, 0), (0x04, 2), (0x05, 0), (0x08, 2), (0x09, 9), (0x0A, 1),
   (0x0B, 0), (0x0C, 0), (0x0D, 1), (0x10, 37), (0x11, 0), (0x12, 0), (0x13, 0), (0x14, 0),
   (0x18, 0), (0x19, 0), (0x20, 0), (0x22, 0), (0x23, 3), (0x24, 10), (0x25, 1), (0x28, 4),
   (0x29, 3), (0x2A, 0), (0x30, 16), (0x31, 1), (0x32, 0)]

/-- The reply of SNAPSHOT: 64 entries of force and flags, and the total, of the latest sample set
(01 R19; the other bits of the flags: log 43). -/
def snapshotOf (s : State) : Reply :=
  { kind := 0x8B#8, status := .ok, resets := false
    detail := (s.acq.latest.samples.flatMap fun (x : Sample) =>
      i16 x.force ++ u8 ((if x.sat then 1 else 0) + (if x.settling then 2 else 0))) ++
      i32 s.acq.latest.total }

/-- The operands of a SET_SEGMENT lie in their ranges (01 R15, check 3). -/
def segmentFieldsInRange (w : SegmentWire) : Prop :=
  w.segment.toNat ≤ 63 ∧ w.enabled.toNat ≤ 1 ∧ w.masked.toNat ≤ 1 ∧ w.gain.toNat ≠ 0 ∧
    1 ≤ w.tripLimit.toNat ∧ w.tripLimit.toNat ≤ 32767 ∧ w.shuntRef.toNat ≤ 32767

/-- The segments enabled as they stand, in ascending order (02 R24, R25). -/
def enabledSegments (s : State) : List Nat :=
  (List.range 64).filter fun n => (s.acq.segs.getD n Segment.initial).enabled

/-- The seventeen conditions of SET_STROKE (04 R61, R62), in order of index. -/
def strokeConditions (w : StrokeWire) : List Prop :=
  [ 0 ≤ w.homeZone.toInt ∧ w.homeZone.toInt ≤ 500000,
    w.homeZone.toInt < w.captureStart.toInt ∧ w.captureStart.toInt ≤ 500000,
    w.captureStart.toInt < w.endPosition.toInt ∧ w.endPosition.toInt ≤ 500000,
    1 ≤ w.pitch.toNat ∧ w.pitch.toNat ≤ 64,
    1 ≤ w.maxStations.toNat ∧ w.maxStations.toNat ≤ 1024,
    w.mode.toNat ≤ 2,
    2 ≤ w.span.toNat ∧ w.span.toNat ≤ 32,
    1 ≤ w.rise.toInt ∧ w.rise.toInt ≤ 2097152,
    0 ≤ w.floor.toInt ∧ w.floor.toInt ≤ 2097152,
    w.earliest.toNat ≤ 1023,
    0 ≤ w.seatPosition.toInt ∧ w.seatPosition.toInt ≤ 500000 ∧
      (w.mode.toNat = 1 ∨ w.mode.toNat = 2 → w.captureStart.toInt < w.seatPosition.toInt),
    w.dwell.toNat ≤ 5000,
    w.allowance.toNat ≤ 255,
    1 ≤ w.segPersistence.toNat ∧ w.segPersistence.toNat ≤ 16,
    1 ≤ w.totalLimit.toInt ∧ w.totalLimit.toInt ≤ 2097152,
    1 ≤ w.totalPersistence.toNat ∧ w.totalPersistence.toNat ≤ 16,
    1 ≤ w.tolerance.toNat ∧ w.tolerance.toNat ≤ 20 ]

/-- A segment that holds back ARM (04 R64): enabled, unmasked, carrying a pin of the active map, and
not OK. -/
def notOkForArm (s : State) (n : Nat) : Prop :=
  ∃ g, s.acq.segs[n]? = some g ∧ g.enabled = true ∧ g.masked = false ∧ g.status ≠ .ok ∧
    ∃ p ∈ s.map.active, p.segment = n

/-- The nine preconditions of ARM but the seventh, in order, each as the condition that holds when it
does not fail (04 R64). -/
def armConditions (s : State) : List (Nat × Prop) :=
  [ (1, s.guard.lockout.latched = false), (2, s.cal.run = none), (3, s.stroke.paramsValid = true),
    (4, s.map.valid = true), (5, s.homeAssigned = true ∨ s.pos.referenced = true),
    (6, s.cal.tareValid = true), (7, ∀ n < 64, ¬notOkForArm s n), (8, s.home = true),
    (9, s.guardOk = true) ]

/-- The latest raw code of some enabled segment is at the top rail (05 R99). -/
def someAtTopRail (s : State) : Prop :=
  ∃ n < 64, ∃ g x, s.acq.segs[n]? = some g ∧ g.enabled = true ∧
    s.acq.latest.samples[n]? = some x ∧ x.raw = some 131071

/-- MAINT is assigned and active (05 R99, 09 R172): its line, the first that holds the function, reads
its active level. -/
def maintActive (s : State) : Prop :=
  ∃ l, s.lines.lines.find? (fun l => l.function = .maint) = some l ∧ l.filtered = l.active

/-- A pin record of MAP_ADD is in range (06 R104). -/
def pinInRange (p : PinWire) : Prop :=
  1 ≤ p.pin.toNat ∧ p.pin.toNat ≤ 4095 ∧ p.segment.toNat ≤ 63 ∧ p.engage.toNat ≤ 1023 ∧
    p.cls.toNat ≤ 7

/-- The map order of two records (06 R111). -/
def mapOrdered (p q : PinRecord) : Prop :=
  p.segment < q.segment ∨ (p.segment = q.segment ∧
    (p.engage < q.engage ∨ (p.engage = q.engage ∧ p.pin ≤ q.pin)))

/-- The six checks of a commit as properties of a list (06 R109). -/
def commitPasses (c : Commit) : Prop :=
  c.list ≠ [] ∧ (c.list.map PinRecord.pin).Nodup ∧
    (∀ p ∈ c.list, c.defined[p.cls]? = some true) ∧
    (∀ p ∈ c.list, ∀ q ∈ c.list, p.segment = q.segment → p.engage = q.engage → p.cls = q.cls) ∧
    (∀ a b : Nat, (c.list.filter fun p => p.segment = a ∧ p.engage = b).length ≤ 32) ∧
    (∀ a : Nat, (c.list.filter fun p => p.segment = a).length ≤ 64)

/-- The seven conditions of SET_CLASS (06 R118), in order of index. -/
def classConditions (w : ClassWire) : List Prop :=
  [ w.number.toNat ≤ 7, 0 ≤ w.absent.toInt, w.absent.toInt ≤ w.low.toInt,
    w.low.toInt ≤ w.high.toInt, w.lead.toNat ≤ 15, 1 ≤ w.span.toNat ∧ w.span.toNat ≤ 64,
    1 ≤ w.depth.toNat ∧ w.depth.toNat ≤ 8 ]

/-- The functions a SET_LINES may name once only (09 R166). -/
def singleFunctions : List Nat := [2, 3, 4, 5, 6, 7, 8]

/-- Line `n` of a SET_LINES offends (09 R166): a code out of range, or, when every code is in range, a
function that a lower line names and only one may hold. -/
def lineOffends (rs : List LineWire) (n : Nat) : Prop :=
  ∃ l, rs[n]? = some l ∧
    ((8 < l.function.toNat ∨ 1 < l.active.toNat) ∨
      ((∀ k ∈ rs, k.function.toNat ≤ 8 ∧ k.active.toNat ≤ 1) ∧
        l.function.toNat ∈ singleFunctions ∧ ∃ k ∈ rs.take n, k.function = l.function))

/-- What a latch at this moment records of a segment: its sample of the published set, or force 0 and
no SAT when it is disabled (03 R50, 08 R152). -/
def recordedSample (g : Segment) (x : Sample) : Sample :=
  if g.enabled then x else { raw := none, force := 0, sat := false, settling := false }

/-- The station record of a latch at this moment: the published set less the segments disabled, and
the sum of its forces (03 R50, R51, 08 R152). -/
def State.stationNow (s : State) : Station :=
  let samples := List.zipWith recordedSample s.acq.segs
    (match s.acq.published with
     | some set => set.samples
     | none => [])
  { index := s.pos.high
    forces := samples.map Sample.force
    sats := samples.map Sample.sat
    stale := decide (s.pos.high ≠ 0 ∧ s.pos.roundSinceLatch = false)
    total := (samples.map Sample.force).sum
    position := s.pos.counter }

/-- A legal transition of one phase has been counted; nothing else has changed (03 R41). -/
def State.counted (ph : Phase) (s : State) : State :=
  { s with
    pos := match ph with
      | .a => { s.pos with
          encA := otherLevel s.pos.encA
          counter := if s.pos.countsUp .a then s.pos.counter + 1 else s.pos.counter - 1 }
      | .b => { s.pos with
          encB := otherLevel s.pos.encB
          counter := if s.pos.countsUp .b then s.pos.counter + 1 else s.pos.counter - 1 } }

/-- Station h has been latched and the quiet timer restarted; nothing else has changed
(03 R49 to R51). -/
def State.latched (s : State) : State :=
  { s with
    profile := { s.profile with records := s.profile.records ++ [s.stationNow] }
    pos := { s.pos with
      high := s.pos.high + 1, roundSinceLatch := false
      stale := if s.stationNow.stale then
          (if s.pos.stale < 65535 then s.pos.stale + 1 else 65535)
        else s.pos.stale }
    stroke := { s.stroke with quiet := .running } }

/-- A seating check is met at a station (04 R69). -/
def State.seatingMet (s : State) (r : Station) : Prop :=
  let p := s.stroke.params
  (p.mode ≠ .position ∧ p.span ≤ r.index ∧ p.earliest ≤ r.index ∧ (p.floor : Int) ≤ r.total ∧
    ∃ b, s.profile.records[r.index - p.span]? = some b ∧ (p.rise : Int) ≤ r.total - b.total) ∨
  (p.mode ≠ .force ∧ (p.seatPosition : Int) ≤ r.position)

/-- Capture closes at the entry into HALTED when the quiet timer has expired (04 R71). -/
def State.closesAtHalt (s : State) : Bool := s.stroke.captureOpen && s.stroke.quiet == .expired

/-- A halt cause taken in APPROACH or CAPTURE away from home (04 R72): the outcome, the STROKE reason,
HALTED, and its report. -/
def State.haltedBy (c : HaltCause) (s : State) : State :=
  { s with
    stroke := { s.stroke with
      state := .halted, outcome := .halt c
      captureOpen := s.stroke.captureOpen && !s.closesAtHalt
      quiet := if s.closesAtHalt then .stopped else s.stroke.quiet }
    profile := { s.profile with
      condition := if s.closesAtHalt then .closed else s.profile.condition }
    guard := { s.guard with
      reasons := { s.guard.reasons with stroke := true }
      readback := if s.guard.reasons.isEmpty = true ∧ s.guard.sensed = .high then .running
        else s.guard.readback
      counting := s.guard.counting || s.guard.reasons.isEmpty }
    link := ({ s.link with watchdog := none } : Link).reported
      { kind := 0x40#8, severity := .stroke
        body := [5#8] ++ u8 c.code ++ bytes2 s.stroke.number ++
          u16 (s.pos.lastStation.getD 0xFFFF) } }

/-- The secondary cause or count after a halt cause that is not the outcome (04 R73, R74). -/
def Stroke.withSecondary (c : HaltCause) (k : Stroke) : Stroke :=
  if k.secondary = none then { k with secondary := some c }
  else { k with secondaryCount := if k.secondaryCount < 255 then k.secondaryCount + 1 else 255 }

/-- A halt cause taken in HALTED or RETRACT (04 R74). -/
def State.secondaryBy (c : HaltCause) (s : State) : State :=
  { s with stroke := s.stroke.withSecondary c }

/-- A halt cause taken in HOLD away from home (04 R73). -/
def State.heldBy (c : HaltCause) (s : State) : State :=
  { s with
    stroke := { s.stroke.withSecondary c with
      state := .halted, dwell := none
      captureOpen := s.stroke.captureOpen && !s.closesAtHalt
      quiet := if s.closesAtHalt then .stopped else s.stroke.quiet }
    profile := { s.profile with
      condition := if s.closesAtHalt then .closed else s.profile.condition }
    link := ({ s.link with watchdog := none } : Link).reported
      { kind := 0x40#8, severity := .stroke
        body := [5#8] ++ u8 c.code ++ bytes2 s.stroke.number ++
          u16 (s.pos.lastStation.getD 0xFFFF) } }

/-- The CAL_DONE of an operation that a loss of home abandons (02 R35, R37). -/
def CalRun.abandonedReport (r : CalRun) : Report :=
  { kind := 0x41#8, severity := .info
    body := match r.job with
      | .tare => [1#8, 1#8, 0#8, 0#8, 0#8, 0#8, 0#8, 0#8, 0#8]
      | .shunt j =>
        [2#8, 1#8] ++
          u8 ((if 0 ∈ j.finished then 1 else 0) + (if 1 ∈ j.finished then 2 else 0) +
            (if 2 ∈ j.finished then 4 else 0) + (if 3 ∈ j.finished then 8 else 0)) ++
          [0#8] ++ u8 j.tally.ok ++ u8 j.tally.shuntLow ++ u8 j.tally.shuntHigh ++
          u8 j.tally.opened ++ u8 j.tally.offsetLimit }

/-- A running operation has been abandoned and reported (02 R37); without one nothing has changed. -/
def State.abandoned (s : State) : State :=
  match s.cal.run with
  | none => s
  | some r =>
    State.reported r.abandonedReport
      { s with cal := { s.cal with run := none, switches := [false, false, false, false] } }

/-- A stroke has started with nothing that halts it at once (04 R66, 05 R87, R92, 10 R187). -/
def State.started (s : State) : State :=
  State.reported
    { kind := 0x40#8, severity := .info
      body := [2#8, 0#8] ++ bytes2 (s.stroke.number + 1) ++ u16 (s.pos.lastStation.getD 0xFFFF) }
    { s with
      stroke := { s.stroke with
        number := s.stroke.number + 1, outcome := .none, secondary := none, secondaryCount := 0
        seat := none, captured := false, state := .approach }
      engine := { s.engine with results := [], summary := none, valid := false }
      lines := { s.lines with indication := .none }
      guard := { s.guard with
        segPersist := List.replicate 64 0, totalPersist := 0, tripGiven := false, trip := none
        counting := decide (s.guard.sensed = .low), overtravel := 0, overtravelGiven := false }
      link := { s.link with
        watchdog := if s.link.interval = 0 then none else some s.link.interval
        expiries := if s.link.interval = 0 then s.link.expiries else 0 } }

/-- The reset hold has been released; nothing else has changed (05 R83, R85, R101). -/
def State.holdReleased (s : State) : State :=
  { s with
    guard := { s.guard with
      reasons := { s.guard.reasons with resetHold := false }
      readback := if s.guard.reasons.stroke = false ∧ s.guard.reasons.lockout = false then .stopped
        else s.guard.readback } }

/-- The stroke has ended (04 R77, 07 R123): STROKE removed, capture closed, the engine started with
the inputs as they stand, EVALUATE entered and reported. -/
def State.ended (s : State) : State :=
  State.reported
    { kind := 0x40#8, severity := .info
      body := [7#8] ++ u8 s.stroke.outcome.code ++ bytes2 s.stroke.number ++
        u16 (s.pos.lastStation.getD 0xFFFF) }
    { s with
      stroke := { s.stroke with
        state := .evaluate, captureOpen := false
        quiet := if s.stroke.captureOpen then .stopped else s.stroke.quiet }
      profile := { s.profile with
        condition := if s.stroke.captureOpen then .closed else s.profile.condition }
      guard := { s.guard with
        reasons := { s.guard.reasons with stroke := false }
        readback := if s.guard.reasons.lockout = false ∧ s.guard.reasons.resetHold = false then
            .stopped
          else s.guard.readback }
      engine := { s.engine with
        work := WorkTable.empty
        run := some {
          last := if s.stroke.captured = true ∧ s.pos.high ≠ 0 then some (s.pos.high - 1) else none
          pitch := (s.pos.copies.map StationCopies.pitch).getD 0
          usable := s.acq.segs.map fun (g : Segment) =>
            g.enabled && !g.masked && g.status == SegStatus.ok
          number := s.stroke.number, outcome := s.stroke.outcome
          secondary := s.stroke.secondary, secondaryCount := s.stroke.secondaryCount
          seat := s.stroke.seat, trip := s.guard.trip, overtravel := s.guard.overtravel } } }

/-- Capture has closed; nothing else has changed (04 R71, 08 R149). -/
def State.captureEnded (s : State) : State :=
  { s with
    stroke := { s.stroke with captureOpen := false, quiet := .stopped }
    profile := { s.profile with condition := .closed } }

/-- The stroke has been seated at a station and HOLD entered (04 R70, 05 R83, R85, R92). -/
def State.seatedAt (station : Nat) (s : State) : State :=
  State.reported
    { kind := 0x40#8, severity := .info
      body := [4#8, 1#8] ++ bytes2 s.stroke.number ++ u16 (s.pos.lastStation.getD 0xFFFF) }
    { s with
      stroke := { s.stroke with
        state := .hold, outcome := .seatedOk, seat := some station
        dwell := some s.stroke.params.dwell }
      guard := { s.guard with
        reasons := { s.guard.reasons with stroke := true }
        readback := if s.guard.reasons.isEmpty = true ∧ s.guard.sensed = .high then .running
          else s.guard.readback
        counting := s.guard.counting || s.guard.reasons.isEmpty }
      link := { s.link with watchdog := none } }

/-- The dwell has expired away from home and RETRACT has been entered (04 R76). -/
def State.retracted (s : State) : State :=
  State.reported
    { kind := 0x40#8, severity := .info
      body := [6#8] ++ u8 s.stroke.outcome.code ++ bytes2 s.stroke.number ++
        u16 (s.pos.lastStation.getD 0xFFFF) }
    { s with
      stroke := { s.stroke with
        state := .retract, dwell := none, captureOpen := false
        quiet := if s.stroke.captureOpen then .stopped else s.stroke.quiet }
      profile := { s.profile with
        condition := if s.stroke.captureOpen then .closed else s.profile.condition } }

/-- The commands that show an encoder fault, its reason code, and the position unit it leaves: both
phases together is TRANSITION, a count beyond the limit is LIMIT; neither counts (03 R41, R42). -/
def State.faults (s : State) (c : Instr) (reason : Nat) (p : Pos) : Prop :=
  (c = .encoderFault .both ∧ reason = 1 ∧ p = { s.pos with
    referenced := false, encA := otherLevel s.pos.encA, encB := otherLevel s.pos.encB }) ∨
  (∃ ph, (c = .encoderCount ph ∨ c = .encoderFault (.one ph)) ∧ s.pos.beyond ph = true ∧
    reason = 2 ∧ p = match ph with
      | .a => { s.pos with referenced := false, encA := otherLevel s.pos.encA }
      | .b => { s.pos with referenced := false, encB := otherLevel s.pos.encB })

/-- The record a lockout cause writes over a cleared one (05 R96). -/
def State.newLockout (cause : LockoutCause) (segment : Option Nat) (s : State) : Lockout :=
  { latched := true, cause := some cause, number := s.stroke.number, segment := segment
    station := if s.stroke.captureOpen = true ∧ s.pos.high ≠ 0 then some (s.pos.high - 1)
      else none
    repeats := 0 }

/-- A lockout latched over a cleared record, outside READY (05 R96, R85, R92). -/
def State.lockedOut (cause : LockoutCause) (segment : Option Nat) (s : State) : State :=
  { s with
    guard := { s.guard with
      lockout := s.newLockout cause segment
      reasons := { s.guard.reasons with lockout := true }
      readback := if s.guard.reasons.isEmpty = true ∧ s.guard.sensed = .high then .running
        else s.guard.readback
      counting := s.guard.counting || (s.guard.reasons.isEmpty && s.stroke.state ∈
        [StrokeState.approach, .capture, .hold, .halted]) } }

/-- A lockout cause counted as a repeat (05 R97). -/
def State.repeated (s : State) : State :=
  { s with
    guard := { s.guard with
      lockout := { s.guard.lockout with
        repeats := if s.guard.lockout.repeats < 255 then s.guard.lockout.repeats + 1
          else 255 } } }

/-- At a publication that led to `t`, segment `n` exceeds its limit and its count has reached ns
(05 R88). -/
def State.tripsSegment (s t : State) (n : Nat) : Prop :=
  ∃ g x c, s.acq.segs[n]? = some g ∧ g.enabled = true ∧
    t.acq.latest.samples[n]? = some x ∧ (g.tripLimit : Int) < x.force ∧
    t.guard.segPersist[n]? = some c ∧ s.stroke.params.segPersistence ≤ c

/-- What a tool reset makes of a state, block by block (the reset tables of the chapters). -/
structure State.RestartedTo (s t : State) : Prop where
  acq : t.acq = s.acq
  cal : t.cal = { s.cal with run := none, switches := [false, false, false, false] }
  pos : t.pos = { s.pos with copies := none, high := 0, roundSinceLatch := false }
  profile : t.profile = { records := [], condition := .empty, number := 0 }
  stroke : t.stroke =
    { s.stroke with
      state := .disarmed, outcome := .none, secondary := none, secondaryCount := 0, seat := none
      dwell := none, quiet := .stopped, captureOpen := false, captured := false }
  reasons : t.guard.reasons =
    { s.guard.reasons with
      stroke := false, resetHold := s.guard.reasons.resetHold || !s.home }
  /-- The readback timer runs on while the set does not empty, and starts for a hold over an empty set
  with the line sensed high (05 R85, R100). -/
  readback : t.guard.readback =
    if s.guard.reasons.lockout = false ∧ s.guard.reasons.resetHold = false ∧ s.home = true then
      .stopped
    else if s.guard.reasons.isEmpty = true ∧ s.guard.sensed = .high then .running
    else s.guard.readback
  lockout : t.guard.lockout = s.guard.lockout
  sensed : t.guard.sensed = s.guard.sensed
  trips : t.guard.tripGiven = false ∧ t.guard.trip = none ∧
    t.guard.segPersist = List.replicate 64 0 ∧ t.guard.totalPersist = 0
  overtravel : t.guard.counting = false ∧ t.guard.overtravel = 0 ∧
    t.guard.overtravelGiven = false
  map : t.map = { s.map with staging := [], commit := none }
  engine : t.engine =
    { run := none, work := WorkTable.empty, results := [], summary := none, valid := false }
  lines : t.lines = { s.lines with indication := .none }
  straps : t.link.baud1 = s.link.baud1 ∧ t.link.baud0 = s.link.baud0
  interval : t.link.interval = s.link.interval
  receiver : t.link.receiver = s.link.receiver
  watchdog : t.link.watchdog = none ∧ t.link.expiries = 0
  counters : t.link.crcErrors = s.link.crcErrors ∧ t.link.timeouts = s.link.timeouts ∧
    t.link.overruns = s.link.overruns ∧ t.link.lost = s.link.lost
  /-- A SNAPSHOT stays in the buffer, and nothing else does (01 R20, 10 R191). -/
  buffer : t.link.buffer = if s.link.buffer = .snapshot then .snapshot else .empty
  /-- The reply queue is emptied, but for a reply that waited for a place and is now placed; the reply
  of a TOOL_RESET does not wait on (10 R191). -/
  replies : (∀ w, s.link.buffer ≠ .waiting w) → t.link.replies = []
  placed : ∀ r, s.link.buffer = .waiting (.made r) →
    (r.resets = true → t.link.replies = []) ∧
    (r.resets = false → t.link.replies = [r] ∨
      (t.link.replies = [] ∧ t.link.sending = some (.reply r)))
  /-- A frame in transmission is sent to its end, and an OK among them no longer acts
  (10 R191, R193). -/
  sending : ∀ f, s.link.sending = some f → t.link.sending = some f.withoutReset
  restart : t.hasReport
    { kind := 0x47#8, severity := .tool
      body := u8 s.stroke.state.code ++ bytes2 s.stroke.number }
  reports : t.link.reports.length ≤ 1
  due : t.due = []

end Sys2Proof.Machine
end

