-- ==== Sys2Proof/Certificates/Slice0/Obligations.lean ====
section
/-! DEFINITION. The statements about the PF640 for the provers. -/

open Sys2Proof Sys2Proof.Machine

/-! ### The step -/

/-- A command at the front of the queue runs over the queue's rest; with nothing waiting and nothing
due the block idles, but that a running evaluation works on by one segment and a high ENC_Z may be
found low (what an idle step does is the model's choice, logs 3, 21 and 22). -/
def Obligations.StepTakesFrontCommand : Prop :=
  ∀ s : State,
    (∀ (c : Instr) (rest : List Instr), s.pending = c :: rest →
      step s = exec c { s with pending := rest }) ∧
    (s.pending = [] → s.held = true → step s = .next s) ∧
    (s.pending = [] → s.due = [] → s.engine.run = none → s.pos.encZ = .low → step s = .next s) ∧
    (∀ i, s.pending = [] → s.due = [] → s.held = false → s.engine.run = some i →
      s.pos.encZ = .low → step s = .next { s with
        engine := { s.engine with work := s.engine.work.advance s.map s.profile i } }) ∧
    (s.pending = [] → s.due = [] → s.held = false → s.engine.run = none → s.pos.encZ = .high →
      ∃ level, step s =
        .next { s with pos := { s.pos with encZ := level }, freeCount := s.freeCount + 1 })

/-- Every command answers a next state in every state, and leaves the waiting commands alone. -/
def Obligations.EveryCommandAnswersANextState : Prop :=
  ∀ (c : Instr) (s : State), ∃ t, exec c s = .next t ∧ t.pending = s.pending

/-! ### Requests on the wire -/

/-- The decoder reads every well-formed request from its own kind and payload. -/
def Obligations.RequestFramesRoundTrip : Prop :=
  ∀ r : Request, r.wellFormed = true → decodeRequest r.kind r.payload = .request r

/-- A payload of another length than its kind's is LENGTH, a kind outside the table KIND, and a good
frame in the empty buffer is answered so, or by its owner (10 R179, R182). -/
def Obligations.FramesAreDispatchedByKindAndLength : Prop :=
  (∀ (kind : Byte) (p : List Byte),
     (∀ n, (kind.toNat, n) ∈ fixedLengths → p.length ≠ n → decodeRequest kind p = .badLength) ∧
     (∀ n, (kind.toNat, n) ∈ fixedLengths → p.length = n →
       ∃ r, decodeRequest kind p = .request r ∧ r.kind = kind) ∧
     (kind.toNat = 0x21 → ¬(6 ∣ p.length ∧ 6 ≤ p.length ∧ p.length ≤ 240) →
       decodeRequest kind p = .badLength) ∧
     ((∀ n, (kind.toNat, n) ∉ fixedLengths) → kind.toNat ≠ 0x21 → decodeRequest kind p = .badKind)) ∧
  (∀ (b a n kind : Byte) (p : List Byte) (s : State), s.Serving →
     s.link.receiver = .check n (kind :: p) (some a) → crc (n :: kind :: p) = a ++ b →
     (decodeRequest kind p = .badKind → exec (.frameReceived b) s =
       .next { s with
         link := ({ s.link.heard with receiver := .seek } : Link).replied
           { kind := if 1 ≤ kind.toNat ∧ kind.toNat ≤ 0x3F then kind + 0x80#8 else 0x80#8
             status := .kind, detail := [kind], resets := false } }) ∧
     (decodeRequest kind p = .badLength → exec (.frameReceived b) s =
       .next { s with
         link := ({ s.link.heard with receiver := .seek } : Link).replied
           { kind := kind + 0x80#8, status := .length, detail := [], resets := false } }) ∧
     (∀ r, decodeRequest kind p = .request r → exec (.frameReceived b) s =
       exec r.instr { s with link := { s.link with receiver := .seek } }))

/-- The bytes of a well-formed request's frame, taken one by one from SEEK, do what the request
does. That a request row is one whole good frame, which leaves the receiver as it was, is the model's
choice (log 1). -/
def Obligations.FrameBytesRunTheRequest : Prop :=
  ∀ (r : Request) (s : State), r.wellFormed = true → s.Ready → s.link.receiver = .seek →
    runAll ((frameBytes r.kind r.payload).map Instr.byteTaken) s = exec r.instr s

/-- One byte taken in each state of the receiver, up to the end of a frame with a bad check, and the
two gaps (10 R180, R181). That a gap which ends nothing changes nothing is the model's choice
(log 4). -/
def Obligations.ReceiverTakesBytesAndGaps : Prop :=
  (∀ (b : Byte) (s : State), s.Ready →
     (s.link.receiver = .seek → exec (.byteTaken b) s =
       .next (if b = 0x7E#8 then { s with link := { s.link with receiver := .header } } else s)) ∧
     (s.link.receiver = .header → 1 ≤ b.toNat → b.toNat ≤ 249 → exec (.byteTaken b) s =
       .next { s with link := { s.link with receiver := .body b [] } }) ∧
     (s.link.receiver = .header → b.toNat = 0 ∨ 250 ≤ b.toNat →
       exec (.byteTaken b) s = .next (State.discarded s) ∧
       exec (.headerLengthError b) s = .next (State.discarded s)) ∧
     (∀ n taken, s.link.receiver = .body n taken → exec (.byteTaken b) s =
       .next { s with
         link := { s.link with
           receiver := if taken.length + 1 < n.toNat then .body n (taken ++ [b])
             else .check n (taken ++ [b]) none } }) ∧
     (∀ n taken, s.link.receiver = .check n taken none → exec (.byteTaken b) s =
       .next { s with link := { s.link with receiver := .check n taken (some b) } }) ∧
     (∀ n taken a, s.link.receiver = .check n taken (some a) →
       exec (.byteTaken b) s = exec (.frameReceived b) s ∧
       (crc (n :: taken) ≠ a ++ b → exec (.frameReceived b) s = .next (State.discarded s))) ∧
     (s.link.receiver = .discard → exec (.byteTaken b) s = .next s)) ∧
  (∀ s : State, s.Ready →
     (s.link.receiver = .seek ∨ s.link.receiver = .discard → exec .frameTimeout s = .next s) ∧
     (s.link.receiver ≠ .seek → s.link.receiver ≠ .discard → exec .frameTimeout s =
       .next { s with
         link := { s.link with
           receiver := .seek
           timeouts := if s.link.timeouts < 65535 then s.link.timeouts + 1 else 65535 } }) ∧
     (s.link.receiver = .discard → exec .discardGapEnd s =
       .next { s with link := { s.link with receiver := .seek } }) ∧
     (s.link.receiver ≠ .discard → exec .discardGapEnd s = .next s))

/-- A request that meets an occupied buffer is answered BUSY, or dropped, counted, and seen by no
owner (10 R181). -/
def Obligations.OccupiedBufferAnswersBusy : Prop :=
  ∀ (r : Request) (s : State), s.Ready → s.link.buffer ≠ .empty →
    (∀ w, s.link.buffer = .waiting w → s.link.replies.length = 4) →
    exec r.instr s = .next { s with
      link :=
        let l := { s.link.heard with
          overruns := if s.link.overruns < 65535 then s.link.overruns + 1 else 65535 }
        if s.link.replies.length < 4 then
          l.replied { kind := r.kind + 0x80#8, status := .busy, detail := [], resets := false }
        else l }

/-! ### The link unit's own requests -/

/-- PING returns family code 0x0C, part number 640 and one capital letter, whose value is free (log 9);
STATUS returns its eight fields as they stand (10 R190; that PERMIT takes STOP_N at its sensed level is
the model's reading, log 33, and that the flags without a name are 0 its choice, log 43). -/
def Obligations.PingAndStatusAnswer : Prop :=
  (∀ s : State, s.Serving → ∃ letter : Byte, 65 ≤ letter.toNat ∧ letter.toNat ≤ 90 ∧
     exec .ping s = .next (s.replied 0x01#8 .ok [0x0C#8, 0x02#8, 0x80#8, letter])) ∧
  (∀ s : State, s.Serving →
     exec .status s = .next (s.replied 0x02#8 .ok
       (u8 s.stroke.state.code ++ u8 s.stroke.outcome.code ++ bytes2 s.stroke.number ++
         i24 s.pos.counter ++
         u16 ((if s.pos.referenced then 1 else 0) + (if s.cal.tareValid then 2 else 0) +
           (if s.map.valid then 4 else 0) + (if s.stroke.paramsValid then 8 else 0) +
           (if s.guard.lockout.latched then 16 else 0) + (if s.home then 32 else 0) +
           (if s.guardOk then 64 else 0) + (if s.guard.sensed = .high then 128 else 0) +
           (if s.stroke.state.permits ∧ s.guardOk ∧ s.guard.sensed = .high ∧
             s.guard.lockout.latched = false then 256 else 0)) ++
         u8 (if s.engine.run.isSome then 3 else
           match s.cal.run.map CalRun.job with
           | none => 0
           | some .tare => 1
           | some (.shunt _) => 2) ++
         i32 s.acq.latest.total ++
         u8 (s.acq.segs.filter fun (g : Segment) => g.enabled && g.status != .ok).length)))

/-- COUNTERS_READ returns and clears the five counters (10 R189, 03 R52); SET_LINK sets the watchdog
interval (10 R188). -/
def Obligations.LinkCountersAndInterval : Prop :=
  (∀ s : State, s.Serving →
     exec .countersRead s = .next { s with
       pos := { s.pos with stale := 0 }
       link := ({ s.link.heard with crcErrors := 0, timeouts := 0, overruns := 0, lost := 0 } :
         Link).replied
           { kind := 0x83#8, status := .ok, resets := false
             detail := u16 s.link.crcErrors ++ u16 s.link.timeouts ++ u16 s.link.overruns ++
               u16 s.link.lost ++ u16 s.pos.stale } }) ∧
  (∀ (w : BitVec 16) (s : State), s.Serving →
     exec (.setLink w) s = .next (
       if s.stroke.state = .approach ∨ s.stroke.state = .capture then s.replied 0x04#8 .state []
       else if w.toNat = 0 ∨ (50 ≤ w.toNat ∧ w.toNat ≤ 2000) then
         { s with
           link := ({ s.link.heard with interval := w.toNat } : Link).replied
             { kind := 0x84#8, status := .ok, detail := bytes2 w, resets := false } }
       else s.replied 0x04#8 .field []))

/-- TOOL_RESET is answered OK and keeps the buffer; the end of that reply makes the tool reset due
before anything else is sent; acting, or by a pulse on RESET_N, it resets the stroke machinery,
keeps the configuration and posts RESTART; the readback timer runs on while the stop-reason set does
not empty (05 R100); in the buffer a SNAPSHOT stays, a TOOL_RESET and a MAP_COMMIT are removed, and a
reply or a COUNTERS_READ that waited for a place is placed (01 R20, 10 R191, R189, 04 R80, and the reset
tables; the due list and the pulse's operand are the model's own, logs 2 and 27). -/
def Obligations.ToolResetActsAfterItsReply : Prop :=
  (∀ s : State,
     (s.Serving → exec .toolReset s = .next { s with
       link := ({ s.link.heard with buffer := .toolReset } : Link).replied
         { kind := 0x85#8, status := .ok, detail := [], resets := true } }) ∧
     (∀ r, s.held = false → s.due = [] → s.link.sending = some (.reply r) → r.resets = true →
       exec .frameTransmitted s = .next { s with
         due := [.toolReset], link := { s.link with sending := none } })) ∧
  ((∀ (us : Nat) (s : State), s.held = false → s.due = [] → s.link.buffer ≠ .waiting .counters →
     10 ≤ us → us < 10000 → ∃ t, exec (.resetNToolReset us) s = .next t ∧ s.RestartedTo t) ∧
   (∀ s : State, s.held = false → s.due = [.toolReset] → s.link.buffer ≠ .waiting .counters →
     ∃ t, exec .toolResetActs s = .next t ∧ s.RestartedTo t) ∧
   (∀ (c : Instr) (s : State), s.held = false → s.link.buffer = .waiting .counters →
     (c = .toolResetActs ∧ s.due = [.toolReset]) ∨
       (∃ us, c = .resetNToolReset us ∧ s.due = [] ∧ 10 ≤ us ∧ us < 10000) →
     ∃ t, exec c s = .next t ∧
       t.pos.stale = 0 ∧ t.link.crcErrors = 0 ∧ t.link.timeouts = 0 ∧ t.link.overruns = 0 ∧
       t.link.lost = 0 ∧ t.link.buffer = .empty ∧
       (∃ r : Reply, r.kind = 0x83#8 ∧ r.status = .ok ∧
         r.detail = u16 s.link.crcErrors ++ u16 s.link.timeouts ++ u16 s.link.overruns ++
           u16 s.link.lost ++ u16 s.pos.stale ∧
         (t.link.replies = [r] ∨ t.link.sending = some (.reply r))) ∧
       s.RestartedTo { t with
         pos := { t.pos with stale := s.pos.stale }
         link := { t.link with
           crcErrors := s.link.crcErrors, timeouts := s.link.timeouts
           overruns := s.link.overruns, lost := s.link.lost } }) ∧
   (∀ (us : Nat) (s : State), s.Ready → us < 10 → exec (.resetNToolReset us) s = .next s))

/-! ### The acquisition unit's requests -/

/-- SET_SENSE (01 R13, R14). -/
def Obligations.SetSenseForcesASettle : Prop :=
  ∀ (w : BitVec 16) (s : State), s.Serving →
    (s.cal.run.isSome = true → exec (.setSense w) s = .next (s.replied 0x08#8 .busy [])) ∧
    (s.cal.run = none → s.stroke.state.idle = false →
      exec (.setSense w) s = .next (s.replied 0x08#8 .state [])) ∧
    (s.cal.run = none → s.stroke.state.idle = true → w.toNat ∉ [250, 500, 1000, 2000] →
      exec (.setSense w) s = .next (s.replied 0x08#8 .field [])) ∧
    (∀ p, s.cal.run = none → s.stroke.state.idle = true →
      (w.toNat, p) ∈ [(250, Period.us250), (500, .us500), (1000, .us1000), (2000, .us2000)] →
      exec (.setSense w) s = .next ({ s with
        acq := { s.acq with
          period := p, settleCount := 8
          topPairs := List.replicate 64 0, bottomPairs := List.replicate 64 0
          segs := s.acq.segs.map fun (g : Segment) =>
            if g.enabled then { g with status := .unchecked } else g }
        cal := { s.cal with tareValid := false } }.replied 0x08#8 .ok []))

/-- SET_SEGMENT is refused by its three checks in order; accepted, a record that changes is written,
with status, tare-valid, settle, pair counts and results as the change asks (01 R15 to R17), and the
bridge is excited while the segment is enabled (01 R1). -/
def Obligations.SetSegmentWritesTheRecord : Prop :=
  (∀ (w : SegmentWire) (s : State), s.Serving →
     (s.cal.run.isSome = true → exec (.setSegment w) s = .next (s.replied 0x09#8 .busy [])) ∧
     (s.cal.run = none → s.stroke.state.idle = false →
       exec (.setSegment w) s = .next (s.replied 0x09#8 .state [])) ∧
     (s.cal.run = none → s.stroke.state.idle = true → ¬segmentFieldsInRange w →
       exec (.setSegment w) s = .next (s.replied 0x09#8 .field []))) ∧
  (∀ (w : SegmentWire) (s : State) (old : Segment), s.Serving → s.cal.run = none →
     s.stroke.state.idle = true → segmentFieldsInRange w →
     s.acq.segs[w.segment.toNat]? = some old →
     let new := { old with
       enabled := decide (w.enabled.toNat = 1), masked := decide (w.masked.toNat = 1),
       gain := w.gain.toNat, shuntRef := w.shuntRef.toNat, tripLimit := w.tripLimit.toNat }
     let starts := old.enabled = false ∧ w.enabled.toNat = 1
     let stops := old.enabled = true ∧ w.enabled.toNat = 0
     (new = old → exec (.setSegment w) s = .next (s.replied 0x09#8 .ok [])) ∧
     (new ≠ old → exec (.setSegment w) s = .next ({ s with
       acq := { s.acq with
         segs := s.acq.segs.set w.segment.toNat { new with
           status := if starts ∨ old.gain ≠ new.gain ∨ old.shuntRef ≠ new.shuntRef then .unchecked
             else old.status }
         settleCount := if starts then 8 else s.acq.settleCount
         topPairs := if starts then List.replicate 64 0
           else if stops then s.acq.topPairs.set w.segment.toNat 0 else s.acq.topPairs
         bottomPairs := if starts then List.replicate 64 0
           else if stops then s.acq.bottomPairs.set w.segment.toNat 0 else s.acq.bottomPairs }
       cal := { s.cal with tareValid := if starts then false else s.cal.tareValid }
       engine := { s.engine with results := [], summary := none, valid := false }
       }.replied 0x09#8 .ok [])) ∧
     (∀ t, exec (.setSegment w) s = .next t →
       t.excites w.segment.toNat = decide (w.enabled.toNat = 1)))

/-- GET_SEGMENT returns a record (01 R18); SNAPSHOT holds the buffer until the next close, which
answers it with the 64 samples and the total it formed (01 R19). That an offset is sent as two signed
bytes is the model's reading (log 17), and that the bits of a sample's flags without a name are 0 its
choice (log 43). Where the reply and a report of a step which the same close makes due enter empty
queues, either goes first: the reply at once, or behind the steps, over the model's own due list and
counter of free choices (logs 2, 8, 10 and 35). -/
def Obligations.SegmentsAndSamplesAreRead : Prop :=
  (∀ (n : Byte) (s : State), s.Serving →
     (63 < n.toNat → exec (.getSegment n) s = .next (s.replied 0x0A#8 .field [])) ∧
     (∀ g, n.toNat ≤ 63 → s.acq.segs[n.toNat]? = some g →
       exec (.getSegment n) s = .next (s.replied 0x0A#8 .ok
         ([n] ++ u8 (if g.enabled then 1 else 0) ++ u8 (if g.masked then 1 else 0) ++ u16 g.gain ++
           i16 g.offset ++ u16 g.shuntRef ++ u16 g.tripLimit ++ u8 g.status.code)))) ∧
  (∀ s : State,
     (s.Serving → exec .snapshot s = .next { s with
       link := { s.link.heard with buffer := .snapshot } }) ∧
     (∀ bridges, s.Ready → s.link.buffer = .snapshot → s.link.replies.length < 4 →
       ∃ t u, exec (.conversionRoundClose bridges) s = .next t ∧
         exec (.conversionRoundClose bridges) { s with link := { s.link with buffer := .empty } } =
           .next u ∧
         (s.link.sending.isSome = true ∨ u.due = [] →
           t = { u with link := u.link.replied (snapshotOf u) }) ∧
         (s.link.sending = none → u.due ≠ [] →
           let v := { u with freeCount := u.freeCount + 1 }
           t = { v with link := u.link.replied (snapshotOf u) } ∨
           t = { v with
             due := u.due ++ [.snapshotReply], link := { u.link with buffer := .snapshot } })) ∧
     (s.held = false → s.pending = [] → s.due = [.snapshotReply] → s.link.fed →
       s.link.buffer = .snapshot → s.link.replies.length < 4 →
       step s = .next { s with
         due := [], link := { s.link with buffer := .empty }.replied (snapshotOf s) }))

/-! ### The calibration unit's requests -/

/-- TARE and SHUNT_CHECK (02 R24, R25): refused in order, and accepted with the ram home. -/
def Obligations.CalibrationIsAcceptedAtHome : Prop :=
  (∀ s : State, s.Serving →
     (s.cal.run.isSome = true → exec .tare s = .next (s.replied 0x0C#8 .busy [])) ∧
     (s.cal.run = none → s.stroke.state.idle = false →
       exec .tare s = .next (s.replied 0x0C#8 .state [])) ∧
     (s.cal.run = none → s.stroke.state.idle = true → s.home = false →
       exec .tare s = .next (s.replied 0x0C#8 .notHome [])) ∧
     (s.cal.run = none → s.stroke.state.idle = true → s.home = true →
       exec .tare s = .next ({ s with
         cal := { s.cal with
           run := some
             { job := .tare
               phase := if s.acq.settleCount = 0 then .average else .waitSettle
               rounds := 0, participants := enabledSegments s
               sums := List.replicate 64 0, rails := List.replicate 64 false } } }.replied
         0x0C#8 .ok []))) ∧
  (∀ (g : Byte) (s : State), s.Serving →
     (s.cal.run.isSome = true → exec (.shuntCheck g) s = .next (s.replied 0x0D#8 .busy [])) ∧
     (s.cal.run = none → s.stroke.state.idle = false →
       exec (.shuntCheck g) s = .next (s.replied 0x0D#8 .state [])) ∧
     (s.cal.run = none → s.stroke.state.idle = true → 4 < g.toNat →
       exec (.shuntCheck g) s = .next (s.replied 0x0D#8 .field [])) ∧
     (s.cal.run = none → s.stroke.state.idle = true → g.toNat ≤ 4 → s.home = false →
       exec (.shuntCheck g) s = .next (s.replied 0x0D#8 .notHome [])) ∧
     (s.cal.run = none → s.stroke.state.idle = true → g.toNat ≤ 4 → s.home = true →
       ∀ groups : List Nat, groups = (if g.toNat = 4 then [0, 1, 2, 3] else [g.toNat]) →
       exec (.shuntCheck g) s = .next ({ s with
         cal := { s.cal with
           run := some
             { job := .shunt
                 { groups := groups, tolerance := s.stroke.params.tolerance, finished := []
                   tally := { ok := 0, shuntLow := 0, shuntHigh := 0, opened := 0,
                              offsetLimit := 0 } }
               phase := if s.acq.settleCount = 0 then .shuntWait else .waitSettle
               rounds := 0, participants := enabledSegments s
               sums := List.replicate 64 0, rails := List.replicate 64 false }
           switches := if s.acq.settleCount = 0 then
               (List.range 4).map fun k => decide (groups.head? = some k)
             else s.cal.switches } }.replied 0x0D#8 .ok [])))

/-! ### The stroke controller's requests -/

/-- SET_STROKE is refused with STATE, or with FIELD and the index of the first condition that fails;
accepted, it replaces the whole set, results become invalid when a field changes, and home is judged
by the new home zone: its loss abandons a running calibration operation with CAL_DONE, which goes out
with the OK in either order (04 R61, R62, 02 R35, R37; log 8), and reaching it releases a reset hold
(05 R101). -/
def Obligations.SetStrokeReplacesTheSet : Prop :=
  (∀ (w : StrokeWire) (s : State), s.Serving →
     (s.stroke.state.idle = false →
       exec (.setStroke w) s = .next (s.replied 0x10#8 .state [])) ∧
     (∀ (i : Nat) (p : Prop), s.stroke.state.idle = true → (strokeConditions w)[i]? = some p → ¬p →
       (∀ q ∈ (strokeConditions w).take i, q) →
       exec (.setStroke w) s = .next (s.replied 0x10#8 .field (u8 i)))) ∧
  (∀ (w : StrokeWire) (s : State) (mode : SeatingMode), s.Serving → s.stroke.state.idle = true →
     (∀ p ∈ strokeConditions w, p) →
     [SeatingMode.force, .position, .either][w.mode.toNat]? = some mode →
     let p : Params :=
       { homeZone := w.homeZone.toNat, captureStart := w.captureStart.toNat
         endPosition := w.endPosition.toNat, pitch := w.pitch.toNat
         maxStations := w.maxStations.toNat, mode := mode, span := w.span.toNat
         rise := w.rise.toNat, floor := w.floor.toNat, earliest := w.earliest.toNat
         seatPosition := w.seatPosition.toNat, dwell := w.dwell.toNat
         allowance := w.allowance.toNat, segPersistence := w.segPersistence.toNat
         totalLimit := w.totalLimit.toNat, totalPersistence := w.totalPersistence.toNat
         tolerance := w.tolerance.toNat }
     let t : State := { s with
       stroke := { s.stroke with params := p, paramsValid := true }
       engine := if p = s.stroke.params then s.engine
         else { s.engine with results := [], summary := none, valid := false } }
     (t.home = s.home → exec (.setStroke w) s = .next (t.replied 0x10#8 .ok [])) ∧
     (s.home = true → t.home = false → s.cal.run = none →
       exec (.setStroke w) s = .next (t.replied 0x10#8 .ok [])) ∧
     (s.home = true → t.home = false → ∃ u, exec (.setStroke w) s = .next u ∧
       u.cal = { s.cal with
         run := none
         switches := if s.cal.run = none then s.cal.switches else List.replicate 4 false } ∧
       u.stroke = t.stroke ∧ u.engine = t.engine ∧ u.guard = s.guard ∧ u.acq = s.acq) ∧
     (s.home = true → t.home = false → s.cal.run.isSome = true →
       State.answersOk 0x10#8 s t.abandoned (exec (.setStroke w) s)) ∧
     (s.home = false → t.home = true →
       exec (.setStroke w) s = .next ({ t with
         guard := { s.guard with
           reasons := { s.guard.reasons with resetHold := false }
           readback :=
             if s.guard.reasons.stroke = false ∧ s.guard.reasons.lockout = false then .stopped
             else s.guard.readback } }.replied 0x10#8 .ok [])))

/-- GET_STROKE (04 R63). -/
def Obligations.GetStrokeReturnsTheSet : Prop :=
  ∀ s : State, s.Serving →
    (let p := s.stroke.params
    exec .getStroke s = .next (s.replied 0x11#8 .ok
      (u24 p.homeZone ++ u24 p.captureStart ++ u24 p.endPosition ++ u8 p.pitch ++
        u16 p.maxStations ++ u8 p.mode.code ++ u8 p.span ++ u32 p.rise ++ u32 p.floor ++
        u16 p.earliest ++ u24 p.seatPosition ++ u16 p.dwell ++ u8 p.allowance ++
        u8 p.segPersistence ++ u32 p.totalLimit ++ u8 p.totalPersistence ++ u8 p.tolerance ++
        [if s.stroke.paramsValid then 1#8 else 0#8]))) ∧
    State.reset.stroke.paramsValid = false ∧
    State.reset.stroke.params =
      { homeZone := 2000, captureStart := 100000, endPosition := 150000, pitch := 10
        maxStations := 1024, mode := .force, span := 4, rise := 2000, floor := 0, earliest := 0
        seatPosition := 150000, dwell := 200, allowance := 16, segPersistence := 3
        totalLimit := 2097152, totalPersistence := 3, tolerance := 5 }

/-- ARM (04 R64): STATE, NOT_READY with the first reason that fails and the lowest segment for
SEGMENT_NOT_OK, or READY; a refused ARM changes nothing, also while a commit that a link reset has left
running runs on (02 R26). That an ARM which would be accepted finds such a commit ended, so that the map
cannot change from an accepted ARM on (06 R113), and is refused where the new map holds it back, is the
model's choice (log 38). -/
def Obligations.ArmExaminesItsPreconditions : Prop :=
  ∀ s : State, s.Serving →
    (s.stroke.state.idle = false → exec .arm s = .next (s.replied 0x12#8 .state [])) ∧
    (s.stroke.state.idle = true → s.map.commit = none → (∀ c ∈ armConditions s, c.2) →
      exec .arm s = .next ({ s with stroke := { s.stroke with state := .ready } }.replied
        0x12#8 .ok [])) ∧
    (s.stroke.state.idle = true → s.map.commit.isSome = true → (∀ c ∈ armConditions s, c.2) → ∃ u,
      exec .mapCommitCompletion s = .next u ∧ u.Serving ∧ u.map.commit = none ∧
      u.stroke = s.stroke ∧
      ((∀ c ∈ armConditions u, c.2) →
        exec .arm s = .next ({ u with stroke := { u.stroke with state := .ready } }.replied
          0x12#8 .ok [])) ∧
      (∀ n, n < 64 → notOkForArm u n → (∀ k < n, ¬notOkForArm u k) →
        exec .arm s = .next (s.replied 0x12#8 .notReady ([7#8] ++ u8 n)))) ∧
    (∀ (i : Nat) (c : Nat × Prop), s.stroke.state.idle = true →
      (armConditions s)[i]? = some c → ¬c.2 → (∀ d ∈ (armConditions s).take i, d.2) → c.1 ≠ 7 →
      exec .arm s = .next (s.replied 0x12#8 .notReady (u8 c.1 ++ [0xFF#8]))) ∧
    (∀ n, s.stroke.state.idle = true → (∀ d ∈ (armConditions s).take 6, d.2) → n < 64 →
      notOkForArm s n → (∀ k < n, ¬notOkForArm s k) →
      exec .arm s = .next (s.replied 0x12#8 .notReady ([7#8] ++ u8 n)))

/-- DISARM (04 R65). -/
def Obligations.DisarmActsByState : Prop :=
  ∀ s : State, s.Serving →
    (s.stroke.state = .ready ∨ s.stroke.state = .complete →
      exec .disarm s = .next ({ s with
        stroke := { s.stroke with state := .disarmed }
        link := { s.link with watchdog := none } }.replied 0x13#8 .ok []) ∧
      ({ s with stroke := { s.stroke with state := .disarmed } } : State).permit = false) ∧
    (s.stroke.state = .disarmed → exec .disarm s = .next (s.replied 0x13#8 .ok [])) ∧
    (s.stroke.state ∈ [StrokeState.approach, .capture, .hold, .halted, .retract, .evaluate] →
      exec .disarm s = .next (s.replied 0x13#8 .state []))

/-! ### The guard unit's requests -/

/-- LOCKOUT_READ (05 R98). -/
def Obligations.LockoutReadReturnsTheRecord : Prop :=
  (∀ s : State, s.Serving →
    exec .lockoutRead s = .next (s.replied 0x18#8 .ok
      ([if s.guard.lockout.latched then 1#8 else 0#8] ++
        u8 (match s.guard.lockout.cause with
          | none => 0 | some .overrange => 4 | some .overtravel => 5 | some .stopReadback => 6) ++
        bytes2 s.guard.lockout.number ++
        u8 (s.guard.lockout.segment.getD 0xFF) ++ u16 (s.guard.lockout.station.getD 0xFFFF) ++
        u8 s.guard.lockout.repeats))) ∧
  State.reset.guard.lockout =
    { latched := false, cause := none, number := 0, segment := none, station := none,
      repeats := 0 }

/-- LOCKOUT_CLEAR (05 R99): four checks in order, then CLEARED and LOCKOUT removed. -/
def Obligations.LockoutClearReleasesTheLockout : Prop :=
  ∀ s : State, s.Serving →
    (s.stroke.state.idle = false → exec .lockoutClear s = .next (s.replied 0x19#8 .state [])) ∧
    (s.stroke.state.idle = true → ¬maintActive s →
      exec .lockoutClear s = .next (s.replied 0x19#8 .noMaint [])) ∧
    (s.stroke.state.idle = true → maintActive s → someAtTopRail s →
      exec .lockoutClear s = .next (s.replied 0x19#8 .rail [])) ∧
    (s.stroke.state.idle = true → maintActive s → ¬someAtTopRail s →
      s.guard.lockout.latched = false →
      exec .lockoutClear s = .next (s.replied 0x19#8 .notLatched [])) ∧
    (s.stroke.state.idle = true → maintActive s → ¬someAtTopRail s →
      s.guard.lockout.latched = true →
      exec .lockoutClear s = .next ({ s with
        guard := { s.guard with
          lockout := { s.guard.lockout with latched := false }
          reasons := { s.guard.reasons with lockout := false }
          readback :=
            if s.guard.reasons.stroke = false ∧ s.guard.reasons.resetHold = false then .stopped
            else s.guard.readback } }.replied 0x19#8 .ok []))

/-! ### The map unit's requests -/

/-- MAP_BEGIN (06 R106). -/
def Obligations.MapBeginEmptiesTheStagingList : Prop :=
  ∀ s : State, s.Serving →
    exec .mapBegin s = .next ({ s with map := { s.map with staging := [] } }.replied 0x20#8 .ok [])

/-- MAP_ADD takes a frame whole or not at all (06 R107). -/
def Obligations.MapAddTakesAFrameWhole : Prop :=
  ∀ (rs : List PinWire) (s : State), s.Serving → 1 ≤ rs.length → rs.length ≤ 40 →
    (∀ i p, rs[i]? = some p → ¬pinInRange p → (∀ q ∈ rs.take i, pinInRange q) →
      exec (.mapAdd rs) s = .next (s.replied 0x21#8 .field (u8 i))) ∧
    ((∀ p ∈ rs, pinInRange p) → 2048 < s.map.staging.length + rs.length →
      exec (.mapAdd rs) s = .next (s.replied 0x21#8 .full [])) ∧
    ((∀ p ∈ rs, pinInRange p) → s.map.staging.length + rs.length ≤ 2048 →
      exec (.mapAdd rs) s = .next ({ s with
        map := { s.map with
          staging := s.map.staging ++ rs.map fun (p : PinWire) =>
            ({ pin := p.pin.toNat, segment := p.segment.toNat, engage := p.engage.toNat
               cls := p.cls.toNat } : PinRecord) } }.replied 0x21#8 .ok
        (u16 (s.map.staging.length + rs.length))))

/-- MAP_COMMIT is taken in DISARMED and COMPLETE and holds the buffer; a list that passes the six
checks is installed in map order, any other is answered with the status of the first check that
finds an offending record and the index of the first such record, and leaves everything as it stood
(06 R108 to R111). The end of a commit that a link reset left running does the same and queues no
reply (06 R112). From READY through EVALUATE, where no commit is in progress, its end changes nothing
(06 R113). BUSY while a commit runs on, when the checks read the staging list, and that an ARM finds
such a commit ended are the model's choices (logs 4, 18, 19 and 38), as is the working table
(log 22). -/
def Obligations.CommitInstallsTheSortedMap : Prop :=
  (∀ s : State, s.Serving →
     (s.stroke.state.idle = false → exec .mapCommit s = .next (s.replied 0x22#8 .state [])) ∧
     (s.stroke.state.idle = true → s.map.commit.isSome = true →
       exec .mapCommit s = .next (s.replied 0x22#8 .busy [])) ∧
     (s.stroke.state.idle = true → s.map.commit = none →
       exec .mapCommit s = .next { s with
         map := { s.map with
           commit := some
             { list := s.map.staging
               defined := s.map.classes.map fun (c : Option WindowClass) => c.isSome } }
         link := { s.link.heard with buffer := .mapCommit } })) ∧
  (∀ (c : Commit) (s : State), s.Ready → s.map.commit = some c →
     let answered (status : Status) (detail : List Byte) : Link :=
       let r : Reply := { kind := 0xA2#8, status := status, detail := detail, resets := false }
       if s.link.buffer ≠ .mapCommit then s.link
       else if s.link.replies.length < 4 then ({ s.link with buffer := .empty } : Link).replied r
       else { s.link with buffer := .waiting (.made r) }
     (s.stroke.state.idle = false → exec .mapCommitCompletion s = .next s) ∧
     (s.stroke.state.idle = true → commitPasses c → ∃ sorted : List PinRecord, sorted.Perm c.list ∧
       sorted.Pairwise mapOrdered ∧
       exec .mapCommitCompletion s = .next { s with
         map := { s.map with active := sorted, valid := true, staging := [], commit := none }
         engine := { s.engine with
           work := WorkTable.empty, results := [], summary := none, valid := false }
         link := answered .ok (u16 c.list.length) }) ∧
     (∀ status index, s.stroke.state.idle = true → c.refusal = some (status, index) →
       exec .mapCommitCompletion s = .next { s with
         map := { s.map with commit := none }
         link := answered status (u16 index) })) ∧
  (∀ c : Commit, c.list = [] → c.refusal = some (.empty, 0)) ∧
  (∀ c : Commit, c.list ≠ [] →
     (∀ i p, c.list[i]? = some p → (∃ q ∈ c.list.take i, q.pin = p.pin) →
       ((c.list.take i).map PinRecord.pin).Nodup → c.refusal = some (.dupPin, i)) ∧
     (∀ i p, (c.list.map PinRecord.pin).Nodup → c.list[i]? = some p →
       c.defined[p.cls]? ≠ some true → (∀ q ∈ c.list.take i, c.defined[q.cls]? = some true) →
       c.refusal = some (.noClass, i)) ∧
     (∀ i p, (c.list.map PinRecord.pin).Nodup → (∀ q ∈ c.list, c.defined[q.cls]? = some true) →
       c.list[i]? = some p →
       (∃ q ∈ c.list.take i, q.segment = p.segment ∧ q.engage = p.engage ∧ q.cls ≠ p.cls) →
       (∀ a ∈ c.list.take i, ∀ b ∈ c.list.take i, a.segment = b.segment → a.engage = b.engage →
         a.cls = b.cls) →
       c.refusal = some (.mixedCohort, i)) ∧
     (∀ i p, (c.list.map PinRecord.pin).Nodup → (∀ q ∈ c.list, c.defined[q.cls]? = some true) →
       (∀ a ∈ c.list, ∀ b ∈ c.list, a.segment = b.segment → a.engage = b.engage → a.cls = b.cls) →
       c.list[i]? = some p →
       ((c.list.take i).filter fun q => q.segment = p.segment ∧ q.engage = p.engage).length = 32 →
       (∀ a b : Nat, ((c.list.take i).filter fun q => q.segment = a ∧ q.engage = b).length ≤ 32) →
       c.refusal = some (.cohortSize, i)) ∧
     (∀ i p, (c.list.map PinRecord.pin).Nodup → (∀ q ∈ c.list, c.defined[q.cls]? = some true) →
       (∀ a ∈ c.list, ∀ b ∈ c.list, a.segment = b.segment → a.engage = b.engage → a.cls = b.cls) →
       (∀ a b : Nat, (c.list.filter fun q => q.segment = a ∧ q.engage = b).length ≤ 32) →
       c.list[i]? = some p →
       ((c.list.take i).filter fun q => q.segment = p.segment).length = 64 →
       (∀ a : Nat, ((c.list.take i).filter fun q => q.segment = a).length ≤ 64) →
       c.refusal = some (.segLoad, i)) ∧
     (commitPasses c ↔ c.refusal = none))

/-- MAP_READ and GET_CLASS return records (06 R114, R120); SET_CLASS defines one (06 R118, R119). That a
MAP_READ is served while a commit left running by a link reset has not ended is the model's reading
(log 41). -/
def Obligations.MapsAndClassesAreReadAndDefined : Prop :=
  (∀ s : State, s.Serving →
     (∀ (first : BitVec 16) (count : Byte),
       (2047 < first.toNat ∨ count.toNat = 0 ∨ 40 < count.toNat →
         exec (.mapRead first count) s = .next (s.replied 0x23#8 .field [])) ∧
       (first.toNat ≤ 2047 → 1 ≤ count.toNat → count.toNat ≤ 40 →
         exec (.mapRead first count) s = .next (s.replied 0x23#8 .ok
           (u16 s.map.active.length ++ [if s.map.valid then 1#8 else 0#8] ++
             ((s.map.active.drop first.toNat).take count.toNat).flatMap fun (p : PinRecord) =>
               u16 p.pin ++ u8 p.segment ++ u16 p.engage ++ u8 p.cls)))) ∧
     (∀ n : Byte,
       (7 < n.toNat → exec (.getClass n) s = .next (s.replied 0x25#8 .field [])) ∧
       (n.toNat ≤ 7 → s.map.classes.getD n.toNat none = none →
         exec (.getClass n) s = .next (s.replied 0x25#8 .ok [n, 0#8])) ∧
       (∀ c, n.toNat ≤ 7 → s.map.classes.getD n.toNat none = some c →
         exec (.getClass n) s = .next (s.replied 0x25#8 .ok
           ([n, 1#8] ++ u16 c.absent ++ u16 c.low ++ u16 c.high ++ u8 c.lead ++ u8 c.span ++
             u8 c.depth))))) ∧
  (∀ (w : ClassWire) (s : State), s.Serving →
     (s.stroke.state.idle = false → exec (.setClass w) s = .next (s.replied 0x24#8 .state [])) ∧
     (∀ (i : Nat) (p : Prop), s.stroke.state.idle = true → (classConditions w)[i]? = some p → ¬p →
       (∀ q ∈ (classConditions w).take i, q) →
       exec (.setClass w) s = .next (s.replied 0x24#8 .field (u8 i))) ∧
     (s.stroke.state.idle = true → (∀ p ∈ classConditions w, p) →
       let c : WindowClass :=
         { absent := w.absent.toNat, low := w.low.toNat, high := w.high.toNat,
           lead := w.lead.toNat, span := w.span.toNat, depth := w.depth.toNat }
       (s.map.classes.getD w.number.toNat none = some c →
         exec (.setClass w) s = .next (s.replied 0x24#8 .ok [])) ∧
       (s.map.classes.getD w.number.toNat none ≠ some c →
         exec (.setClass w) s = .next ({ s with
           map := { s.map with classes := s.map.classes.set w.number.toNat (some c) }
           engine := { s.engine with results := [], summary := none, valid := false } }.replied
           0x24#8 .ok []))))

/-! ### The records of a stroke -/

/-- PROFILE_READ: its fields are checked, and the header and the window of entries returned (08 R151,
R161). That the bits of an entry's flags without a name are 0 is the model's choice (log 43). -/
def Obligations.ProfileReadReturnsTheWindow : Prop :=
  ∀ (sel : Byte) (first : BitVec 16) (count : Byte) (s : State), s.Serving →
    (64 < sel.toNat ∨ 1023 < first.toNat ∨ count.toNat = 0 ∨ 80 < count.toNat →
      exec (.profileRead sel first count) s = .next (s.replied 0x28#8 .field [])) ∧
    (sel.toNat ≤ 64 → first.toNat ≤ 1023 → 1 ≤ count.toNat → count.toNat ≤ 80 →
      ∀ window : List Station,
        window = (s.profile.records.drop first.toNat).take
          (if sel.toNat = 64 then min count.toNat 30 else count.toNat) →
      exec (.profileRead sel first count) s = .next (s.replied 0x28#8 .ok
        ([sel] ++ u8 s.profile.condition.code ++ bytes2 s.profile.number ++
          u16 s.profile.records.length ++ u8 window.length ++
          window.flatMap fun (r : Station) =>
            if sel.toNat = 64 then
              i32 r.total ++ i24 r.position ++
                u8 ((if r.sats.any id then 1 else 0) + (if r.stale then 2 else 0))
            else
              i16 (r.forces.getD sel.toNat 0) ++
                u8 ((if r.sats.getD sel.toNat false then 1 else 0) +
                  (if r.stale then 2 else 0)))))

/-- RESULT_READ and RESULT_SUMMARY: BUSY, NO_RESULTS, FIELD, or the window and the summary (08 R156
to R158, R162). That bit 3 of a record's verdict and flags is 0 is the model's choice (log 43). -/
def Obligations.ResultsAreReadWhileValid : Prop :=
  (∀ (first : BitVec 16) (count : Byte) (s : State), s.Serving →
     (s.engine.run.isSome = true →
       exec (.resultRead first count) s = .next (s.replied 0x29#8 .busy [])) ∧
     (s.engine.run = none → s.engine.valid = false →
       exec (.resultRead first count) s = .next (s.replied 0x29#8 .noResults [])) ∧
     (s.engine.run = none → s.engine.valid = true →
       2047 < first.toNat ∨ count.toNat = 0 ∨ 24 < count.toNat →
       exec (.resultRead first count) s = .next (s.replied 0x29#8 .field [])) ∧
     (∀ m, s.engine.run = none → s.engine.valid = true → s.engine.summary = some m →
       first.toNat ≤ 2047 → 1 ≤ count.toNat → count.toNat ≤ 24 →
       ∀ window : List ResultRecord,
         window = (s.engine.results.drop first.toNat).take count.toNat →
       exec (.resultRead first count) s = .next (s.replied 0x29#8 .ok
         (bytes2 m.number ++ u16 s.engine.results.length ++ u8 window.length ++
           window.flatMap fun (r : ResultRecord) =>
             u16 r.pin ++ u8 r.segment ++ u16 r.engage ++
               u8 (r.verdict.code + (if r.flags.baseClipped then 16 else 0) +
                 (if r.flags.truncated then 32 else 0) + (if r.flags.sparse then 64 else 0) +
                 (if r.flags.sat then 128 else 0)) ++
               i16 (r.share.getD 0) ++ u16 (r.size.getD 0))))) ∧
  (∀ s : State, s.Serving →
     (s.engine.run.isSome = true → exec .resultSummary s = .next (s.replied 0x2A#8 .busy [])) ∧
     (s.engine.run = none → s.engine.valid = false →
       exec .resultSummary s = .next (s.replied 0x2A#8 .noResults [])) ∧
     (∀ m, s.engine.run = none → s.engine.valid = true → s.engine.summary = some m →
       exec .resultSummary s = .next (s.replied 0x2A#8 .ok
         (bytes2 m.number ++ u8 m.outcome.code ++
           u8 (match m.secondary with | none => 0 | some c => c.code) ++ u8 m.secondaryCount ++
           (match m.trip with
             | none => [0#8, 0xFF#8] ++ i32 0
             | some { segment := some n, force := f } => [1#8] ++ u8 n ++ i32 f
             | some { segment := none, force := f } => [2#8, 0xFF#8] ++ i32 f) ++
           u16 (m.seat.getD 0xFFFF) ++ u16 (m.last.getD 0xFFFF) ++ u16 m.overtravel ++
           (match m.peak with
             | none => i32 0 ++ u16 0xFFFF
             | some (total, station) => i32 total ++ u16 station) ++
           u16 m.counts.pass ++ u16 m.counts.low ++ u16 m.counts.high ++ u16 m.counts.absent ++
           u16 m.counts.notReached ++ u16 m.counts.unverified ++ u32 m.work ++
           u8 m.result.code))))

/-! ### The line unit -/

/-- SET_LINES is refused with STATE, or with FIELD and the lowest line that offends; accepted, it
writes functions and active levels, and no stored value or filter, and home is judged again: its loss
abandons a running calibration operation with CAL_DONE, and reaching it releases a reset hold (09
R166, R167, 02 R37, 05 R101). -/
def Obligations.SetLinesWritesTheTable : Prop :=
  (∀ (rs : List LineWire) (s : State), s.Serving → rs.length = 8 →
     (s.stroke.state.idle = false → exec (.setLines rs) s = .next (s.replied 0x30#8 .state [])) ∧
     (∀ n, s.stroke.state.idle = true → lineOffends rs n → (∀ k < n, ¬lineOffends rs k) →
       exec (.setLines rs) s = .next (s.replied 0x30#8 .field (u8 n)))) ∧
  (∀ (rs : List LineWire) (s : State), s.Serving → rs.length = 8 → s.lines.lines.length = 8 →
     s.stroke.state.idle = true → (∀ n < 8, ¬lineOffends rs n) →
     ∃ ls : List Line, ls.length = 8 ∧
       (∀ (n : Nat) (r : LineWire) (l : Line), rs[n]? = some r → s.lines.lines[n]? = some l → ∃ m, ls[n]? = some m ∧
         m.function.code = r.function.toNat ∧ m.active = (if r.active = 1#8 then .high else .low) ∧
         m.stored = l.stored ∧ m.filtered = l.filtered) ∧
       ∀ t : State, t = { s with lines := { s.lines with lines := ls } } →
         (t.home = s.home → exec (.setLines rs) s = .next (t.replied 0x30#8 .ok [])) ∧
         (s.home = true → t.home = false → s.cal.run = none →
           exec (.setLines rs) s = .next (t.replied 0x30#8 .ok [])) ∧
         (∀ r, s.home = true → t.home = false → s.cal.run = some r → ∃ u,
           exec (.setLines rs) s = .next u ∧
           u.cal = { s.cal with run := none, switches := [false, false, false, false] } ∧
           u.lines = t.lines ∧ u.acq = s.acq ∧ u.pos = s.pos ∧ u.stroke = s.stroke ∧
           u.guard = s.guard ∧ u.map = s.map ∧ u.engine = s.engine ∧ u.profile = s.profile ∧
           (s.link.reports.length < 16 → u.hasReport r.abandonedReport)) ∧
         (s.home = false → t.home = true →
           exec (.setLines rs) s = .next (t.holdReleased.replied 0x30#8 .ok [])))

/-- WRITE_LINES writes the eight stored values in every state; READ_LINES returns each line's
function, active level, level, state and stored value (09 R164, R168, R169, R174). That bits 4 to 7 of
a line's flags are 0 is the model's choice (log 43). -/
def Obligations.LinesAreWrittenAndRead : Prop :=
  (∀ (v : Byte) (s : State), s.Serving → ∃ ls : List Line,
     ls.length = s.lines.lines.length ∧
     (∀ (n : Nat) (l : Line), s.lines.lines[n]? = some l →
       ls[n]? = some { l with stored := v.getLsbD n }) ∧
     exec (.writeLines v) s =
       .next ({ s with lines := { s.lines with lines := ls } }.replied 0x31#8 .ok [])) ∧
  (∀ s : State, s.Serving →
     exec .readLines s = .next (s.replied 0x32#8 .ok
       (s.lines.lines.flatMap fun (l : Line) =>
         let active : Bool := match l.function with
           | .generalIn | .home | .guardInput | .maint => l.filtered == l.active
           | .generalOut => l.stored
           | .retractReq => s.stroke.state == .halted || s.stroke.state == .retract ||
               s.guard.reasons.resetHold
           | .passOut => s.lines.indication == .pass
           | .failOut => s.lines.indication == .fail
           | .busyOut => s.stroke.state ∈
               [StrokeState.approach, .capture, .hold, .halted, .retract, .evaluate]
         let high : Bool := match l.function with
           | .generalIn | .home | .guardInput | .maint => l.filtered == .high
           | .generalOut | .retractReq | .passOut | .failOut | .busyOut =>
               active == (l.active == .high)
         u8 l.function.code ++
           u8 ((if l.active = .high then 1 else 0) + (if high then 2 else 0) +
             (if active then 4 else 0) + (if l.stored then 8 else 0)))))

/-! ### The link's own events -/

/-- The end of a frame lets the transmitter choose: the oldest reply, else the oldest report, else
nothing; a reply that waited for the place is placed by the step that makes due. A request served
while four replies are queued has its effect, and its reply waits in the buffer (10 R182, R184, R189;
due list, log 2; an end of no frame changes nothing by the model's choice, log 4). -/
def Obligations.FrameEndChoosesTheNextFrame : Prop :=
  ∀ s : State, s.held = false →
    (s.Ready → s.link.sending = none → exec .frameTransmitted s = .next s) ∧
    (∀ f r rs, s.due = [] → s.link.sending = some f → f.makesReset = false →
      s.link.replies = r :: rs → rs.length < 4 → exec .frameTransmitted s =
        .next { s with
          due := match s.link.buffer with
            | .waiting _ => [.deferredReply]
            | .empty | .snapshot | .mapCommit | .toolReset => []
          link := { s.link with replies := rs, sending := some (.reply r) } }) ∧
    (∀ f p ps, s.due = [] → s.link.sending = some f → f.makesReset = false →
      s.link.replies = [] → s.link.reports = p :: ps → exec .frameTransmitted s =
        .next { s with link := { s.link with reports := ps, sending := some (.report p) } }) ∧
    (∀ f, s.due = [] → s.link.sending = some f → f.makesReset = false →
      s.link.replies = [] → s.link.reports = [] → exec .frameTransmitted s =
        .next { s with link := { s.link with sending := none } }) ∧
    (∀ r, s.due = [.deferredReply] → s.link.fed → s.link.buffer = .waiting (.made r) →
      r.resets = false → s.link.replies.length < 4 → exec .deferredReplyPlaced s =
        .next { s with
          due := []
          link := ({ s.link with buffer := .empty } : Link).replied r }) ∧
    (s.due = [.deferredReply] → s.link.fed → s.link.buffer = .waiting .counters →
      s.link.replies.length < 4 → exec .deferredReplyPlaced s =
        .next { s with
          due := []
          pos := { s.pos with stale := 0 }
          link := ({ s.link with
            buffer := .empty, crcErrors := 0, timeouts := 0, overruns := 0, lost := 0 } :
            Link).replied
              { kind := 0x83#8, status := .ok, resets := false
                detail := u16 s.link.crcErrors ++ u16 s.link.timeouts ++ u16 s.link.overruns ++
                  u16 s.link.lost ++ u16 s.pos.stale } }) ∧
    (s.Ready → s.link.buffer = .empty → s.link.replies.length = 4 →
      exec .countersRead s =
        .next { s with link := { s.link.heard with buffer := .waiting .counters } } ∧
      ∀ r : Request, r ≠ .countersRead → ∃ u,
        exec r.instr { s with link := { s.link with replies := [] } } = .next u ∧
        (u.link.replies = [] →
          exec r.instr s = .next { u with link := { u.link with replies := s.link.replies } }) ∧
        (∀ p ps, u.link.replies = p :: ps → ps = [] ∧ exec r.instr s = .next { u with
          link := { u.link with
            replies := s.link.replies, buffer := .waiting (.made p) } }))

/-- A break (10 R192): receiver, buffer and reply queue are emptied, the frame in transmission is
cut off, a report so cut off is counted, and the report queue goes on. That the next report begins
at once is the model's choice (log 29). -/
def Obligations.LinkResetEmptiesTheReplySide : Prop :=
  ∀ s : State, s.held = false → s.due = [] → exec .linkReset s =
    .next { s with
      link := { s.link with
        receiver := .seek, buffer := .empty, replies := []
        sending := s.link.reports.head?.map OutFrame.report, reports := s.link.reports.tail
        lost := match s.link.sending with
          | some (.report _) => if s.link.lost < 65535 then s.link.lost + 1 else 65535
          | some (.reply _) | none => s.link.lost } }

/-- The watchdog's expiries (10 R187): the first is reported and restarts the timer, the second
halts the descent with LINK_LOST, and with the ram home ends the stroke there (04 R72, R77). That the
expiry of a stopped timer changes nothing is the model's choice (log 4); that L is none for a stroke
that never captured, and that the quiet timer stops with capture, are its readings (logs 14 and
25). -/
def Obligations.WatchdogExpiresTwice : Prop :=
  ∀ s : State, s.Ready →
    (s.link.watchdog = none → exec .watchdogExpiry s = .next s) ∧
    (∀ n, s.link.watchdog = some n → s.link.expiries = 0 → exec .watchdogExpiry s =
      .next ({ s with
        link := { s.link with watchdog := some s.link.interval, expiries := 1 } }.reported
          { kind := 0x45#8, severity := .note
            body := bytes2 s.stroke.number ++ u16 s.link.interval })) ∧
    (∀ n, s.link.watchdog = some n → s.link.expiries = 1 → s.stroke.state.descending = true →
      s.home = false → exec .watchdogExpiry s = .next (s.haltedBy .linkLost)) ∧
    (∀ n, s.link.watchdog = some n → s.link.expiries = 1 → s.stroke.state.descending = true →
      s.home = true → exec .watchdogExpiry s = .next (s.haltedBy .linkLost).ended)

/-- A post to the report queue (10 R185): appended below sixteen; at sixteen an urgent report
displaces the oldest INFO or NOTE report, and any other is discarded; both are counted. -/
def Obligations.ReportQueueOverflows : Prop :=
  ∀ (p : Report) (l : Link),
    (l.reports.length < 16 → l.post p = { l with reports := l.reports ++ [p] }) ∧
    (∀ (a b : List Report) (old : Report), l.reports = a ++ old :: b → l.reports.length = 16 →
      (p.severity = .stroke ∨ p.severity = .tool) →
      (old.severity = .info ∨ old.severity = .note) →
      (∀ q ∈ a, q.severity = .stroke ∨ q.severity = .tool) →
      l.post p = { l with
        reports := a ++ b ++ [p], lost := if l.lost < 65535 then l.lost + 1 else 65535 }) ∧
    (l.reports.length = 16 → p.severity = .info ∨ p.severity = .note ∨
        (∀ q ∈ l.reports, q.severity = .stroke ∨ q.severity = .tool) →
      l.post p = { l with lost := if l.lost < 65535 then l.lost + 1 else 65535 })

/-! ### Resets -/

/-- Power-on reset takes hold in every state; its release gives every block the values of its reset
table, with direction, bit rate and filtered levels sampled (01 R21, 02 R38, 03 R55, 04 R81, 05
R102, 06 R121, 07 R147, 08 R160, 09 R173, 10 R193). A part held in it takes no other command (the
model's choice, log 20). -/
def Obligations.PowerOnResetGivesTheResetValues : Prop :=
  (∀ (w : Straps) (s : State), ∃ t u,
     exec .powerOnReset s = .next t ∧ t.held = true ∧ t.permit = false ∧ t.drivesStop = false ∧
     (∀ n, t.excites n = false ∧ t.shuntClosed n = false) ∧
     exec (.powerOnResetRelease w) t = .next u ∧
     u = {
       held := false
       acq := {
         period := .us1000, settleCount := 8
         segs := List.replicate 64
           { enabled := false, masked := false, gain := 4096, offset := 0, shuntRef := 0
             tripLimit := 32767, status := .unchecked }
         latest := {
           samples := List.replicate 64
             { raw := some 0, force := 0, sat := false, settling := true }
           total := 0 }
         published := none
         topPairs := List.replicate 64 0, bottomPairs := List.replicate 64 0 }
       cal := { run := none, switches := [false, false, false, false], tareValid := false }
       pos := {
         counter := 0, referenced := false
         direction := match w.dirsel with | .low => .aLeadsUp | .high => .bLeadsUp
         encA := w.encA, encB := w.encB, encZ := w.encZ
         copies := none, high := 0, roundSinceLatch := false, stale := 0 }
       profile := { records := [], condition := .empty, number := 0 }
       stroke := {
         state := .disarmed, params := State.reset.stroke.params, paramsValid := false, number := 0
         outcome := .none, secondary := none, secondaryCount := 0, seat := none, dwell := none
         quiet := .stopped, captureOpen := false, captured := false }
       guard := {
         reasons := { stroke := false, lockout := false, resetHold := false }, sensed := .high
         readback := .stopped, segPersist := List.replicate 64 0, totalPersist := 0
         tripGiven := false, trip := none, counting := false, overtravel := 0
         overtravelGiven := false
         lockout := { latched := false, cause := none, number := 0, segment := none
                      station := none, repeats := 0 } }
       map := { staging := [], active := [], valid := false, classes := List.replicate 8 none
                commit := none }
       engine := { run := none, work := { records := [], clusters := [] }, results := []
                   summary := none, valid := false }
       lines := {
         lines := List.replicate 8
           { function := .generalIn, active := .high, stored := false, filtered := .low }
         indication := .none }
       link := {
         baud1 := w.baud1, baud0 := w.baud0, receiver := .seek, buffer := .empty, replies := []
         reports := [], sending := none, interval := 500, watchdog := none, expiries := 0
         crcErrors := 0, timeouts := 0, overruns := 0, lost := 0 }
       due := [], freeCount := s.freeCount, pending := s.pending }) ∧
  (∀ (c : Instr) (s : State), s.held = true → c ≠ .powerOnReset →
     (∀ w, c ≠ .powerOnResetRelease w) → exec c s = .next s)

/-! ### The conversion round -/

/-- `roundDiv` rounds to nearest, halves away from zero (00 section 4.2); a force follows from a raw
code (01 R6, R7); every code of a period converts to itself and an output beyond the scale to its
rail (01 R1, R2). -/
def Obligations.ForcesFollowFromBridgeOutputs : Prop :=
  ((∀ (n : Int) (d : Nat), 0 < d →
     2 * (n - d * roundDiv n d).natAbs ≤ d ∧
     (2 * (n - d * roundDiv n d).natAbs = d → n.natAbs < (d * roundDiv n d).natAbs)) ∧
   (∀ (g : Segment) (settling : Bool) (r : Int), g.enabled = true → -131072 ≤ r → r ≤ 131071 →
     let q := roundDiv ((r - g.offset) * g.gain) 4096
     (r = 131071 → g.sample settling r =
       { raw := some r, force := 32767, sat := true, settling := settling }) ∧
     (r = -131072 → g.sample settling r =
       { raw := some r, force := -32768, sat := true, settling := settling }) ∧
     (r ≠ 131071 → r ≠ -131072 → g.sample settling r =
       { raw := some r
         force := if q < -32768 then -32768 else if 32767 < q then 32767 else q
         sat := decide (q < -32768 ∨ 32767 < q), settling := settling }))) ∧
  (∀ (p : Period) (step : Int) (b : Int),
     (p, step) ∈ [(Period.us250, 8), (.us500, 4), (.us1000, 2), (.us2000, 1)] →
     (131071 ≤ b → convert p b = 131071) ∧ (b ≤ -131072 → convert p b = -131072) ∧
     (-131072 ≤ b → b ≤ 131071 → step ∣ b → convert p b = b) ∧
     (-131072 ≤ convert p b ∧ convert p b ≤ 131071 ∧
       (convert p b = 131071 ∨ step ∣ convert p b)))

/-- The close of a round (01 R1 to R5, R8): 64 samples and their total become the latest set; a
settle round counts down and publishes nothing, any other publishes. A missing output reads 0 by the
model's choice (log 24), and the list of due steps is its own (log 2). -/
def Obligations.RoundCloseFormsTheSampleSet : Prop :=
  ∀ (bridges : List Int) (s : State), s.Ready → s.link.buffer ≠ .snapshot →
    ∃ t, exec (.conversionRoundClose bridges) s = .next t ∧
      (∀ (n : Nat) (g : Segment), s.acq.segs[n]? = some g →
        t.acq.latest.samples[n]? = some
          (if g.enabled then
            g.sample (decide (s.acq.settleCount ≠ 0))
              (convert s.acq.period (bridges.getD n 0))
          else { raw := none, force := 0, sat := false, settling := false })) ∧
      t.acq.latest.samples.length = s.acq.segs.length ∧
      t.acq.latest.total = (t.acq.latest.samples.map Sample.force).sum ∧
      t.acq.segs = s.acq.segs ∧ t.acq.period = s.acq.period ∧
      t.stroke = s.stroke ∧ t.profile = s.profile ∧ t.map = s.map ∧ t.engine = s.engine ∧
      t.lines = s.lines ∧ t.link = s.link ∧ t.held = s.held ∧
      (∀ k, s.acq.settleCount = k + 1 →
        t.acq.settleCount = k ∧ t.acq.published = s.acq.published ∧
        t.acq.topPairs = s.acq.topPairs ∧ t.acq.bottomPairs = s.acq.bottomPairs ∧
        t.pos = s.pos ∧ t.cal = s.cal ∧ t.guard = s.guard ∧
        t.due = if k = 0 ∧ (∃ r, s.cal.run = some r ∧ r.phase = .waitSettle) then [.settleEnd]
          else []) ∧
      (s.acq.settleCount = 0 →
        t.acq.settleCount = 0 ∧ t.acq.published = some t.acq.latest ∧
        t.pos = { s.pos with roundSinceLatch := true })

/-- At a close that publishes, rail pairs and trips are counted, and exactly the events they
complete become due (01 R9, R10, 05 R87 to R89; the due list is the model's own, log 2). -/
def Obligations.PublicationCountsRailsAndTrips : Prop :=
  ∀ (bridges : List Int) (s : State), s.Ready → s.link.buffer ≠ .snapshot →
    s.acq.settleCount = 0 → s.StoreBounds →
    ∃ t, exec (.conversionRoundClose bridges) s = .next t ∧
      (∀ (n : Nat) (g : Segment) (x : Sample), s.acq.segs[n]? = some g →
        t.acq.latest.samples[n]? = some x →
        t.acq.topPairs[n]? = (s.acq.topPairs[n]?).map (fun c =>
          if g.enabled = false then c else if x.raw = some 131071 then min 2 (c + 1) else 0) ∧
        t.acq.bottomPairs[n]? = (s.acq.bottomPairs[n]?).map (fun c =>
          if g.enabled = false then c else if x.raw = some (-131072) then min 2 (c + 1) else 0) ∧
        (Due.overrange n ∈ t.due ↔
          s.acq.topPairs[n]? = some 1 ∧ t.acq.topPairs[n]? = some 2) ∧
        (Due.bottomRail n ∈ t.due ↔
          s.acq.bottomPairs[n]? = some 1 ∧ t.acq.bottomPairs[n]? = some 2 ∧
            g.status ≠ .opened) ∧
        (s.examinesTrips = true → t.guard.segPersist[n]? = (s.guard.segPersist[n]?).map (fun c =>
          if g.enabled = true ∧ (g.tripLimit : Int) < x.force then min 16 (c + 1) else 0))) ∧
      (s.examinesTrips = false → t.guard = s.guard) ∧
      (s.examinesTrips = true → t.guard = { s.guard with
        segPersist := t.guard.segPersist
        totalPersist := if (s.stroke.params.totalLimit : Int) < t.acq.latest.total then
          min 16 (s.guard.totalPersist + 1) else 0 }) ∧
      (∀ n f, Due.tripSegment n f ∈ t.due ↔ s.examinesTrips = true ∧
        s.tripsSegment t n ∧ (∀ k < n, ¬s.tripsSegment t k) ∧
        ∃ x, t.acq.latest.samples[n]? = some x ∧ x.force = f) ∧
      (∀ f, Due.tripTotal f ∈ t.due ↔ s.examinesTrips = true ∧ (∀ k, ¬s.tripsSegment t k) ∧
        f = t.acq.latest.total ∧ (s.stroke.params.totalLimit : Int) < f ∧
        s.stroke.params.totalPersistence ≤ t.guard.totalPersist)

/-! ### The steps a close makes due -/

/-- A trip that falls due in APPROACH or CAPTURE halts the stroke as its outcome, in HOLD as its
secondary cause, and its detail is written (05 R88 to R90, 04 R72, R73; due list, log 2; that the
quiet timer stops when capture closes at the halt, log 25). -/
def Obligations.TripsHaltTheStroke : Prop :=
  ∀ (s : State) (f : Int) (n : Nat), s.held = false → s.link.fed → s.home = false →
    (s.due = [.tripSegment n f] → s.stroke.state.descending = true → exec .tripSegment s =
      .next (State.haltedBy .tripSegment
        { s with due := [], guard := { s.guard with
            tripGiven := true, trip := some { segment := some n, force := f } } })) ∧
    (s.due = [.tripTotal f] → s.stroke.state.descending = true → exec .tripTotal s =
      .next (State.haltedBy .tripTotal
        { s with due := [], guard := { s.guard with
            tripGiven := true, trip := some { segment := none, force := f } } })) ∧
    (s.due = [.tripSegment n f] → s.stroke.state = .hold → exec .tripSegment s =
      .next (State.heldBy .tripSegment
        { s with due := [], guard := { s.guard with
            tripGiven := true, trip := some { segment := some n, force := f } } })) ∧
    (s.due = [.tripTotal f] → s.stroke.state = .hold → exec .tripTotal s =
      .next (State.heldBy .tripTotal
        { s with due := [], guard := { s.guard with
            tripGiven := true, trip := some { segment := none, force := f } } }))

/-- An overrange event latches the lockout over a cleared record, or counts a repeat; in a stroke it
gives its halt cause, by which the stroke halts, and ends there with the ram home, in READY it disarms
(05 R91, R96, R97, 04 R67, R72 to R74, R77). A bottom-rail pair makes the status OPEN and reports it
(01 R10). The due list is the model's own (log 2); the order of LOCKOUT and STROKE_EVENT (log 37), that
L is none for a stroke that never captured (log 14) and that the quiet timer stops with capture
(log 25) are its readings. -/
def Obligations.RailEventsLockOutAndOpen : Prop :=
  (∀ (n : Fin 64) (s : State), s.held = false → s.due = [.overrange n.val] → s.link.fed →
     (s.guard.lockout.latched = false →
       s.stroke.state ∈ [StrokeState.disarmed, .evaluate, .complete] →
       exec (.overrangeEvent n) s = .next
         ((State.lockedOut .overrange (some n.val) { s with due := [] }).reported
           (lockoutReport (s.newLockout .overrange (some n.val))))) ∧
     (s.guard.lockout.latched = true →
       s.stroke.state ∈ [StrokeState.disarmed, .ready, .evaluate, .complete] →
       exec (.overrangeEvent n) s = .next (State.repeated { s with due := [] })) ∧
     (let e : State := { s with due := [] }
      let u : State :=
        if s.guard.lockout.latched then e.repeated
        else (State.lockedOut .overrange (some n.val) e).reported
          (lockoutReport (s.newLockout .overrange (some n.val)))
      (s.stroke.state.returning = true →
        exec (.overrangeEvent n) s = .next (u.secondaryBy .overrange)) ∧
      (s.stroke.state.descending = true → exec (.overrangeEvent n) s = .next
        (if s.home then (u.haltedBy .overrange).ended else u.haltedBy .overrange)) ∧
      (s.stroke.state = .hold → exec (.overrangeEvent n) s = .next
        (if s.home then (u.heldBy .overrange).ended else u.heldBy .overrange))) ∧
     (s.guard.lockout.latched = false → s.stroke.state = .ready →
       ∃ t, exec (.overrangeEvent n) s = .next t ∧ t.stroke = { s.stroke with state := .disarmed } ∧
         t.guard.lockout = s.newLockout .overrange (some n.val) ∧
         t.guard.reasons = { s.guard.reasons with lockout := true } ∧ t.acq = s.acq ∧
         t.pos = s.pos ∧ t.permit = false ∧ t.link.watchdog = none)) ∧
  (∀ (n : Fin 64) (s : State) (g : Segment), s.held = false → s.due = [.bottomRail n.val] →
     s.link.fed → s.acq.segs[n.val]? = some g → exec (.bottomRailPair n) s =
       .next ({ s with
         due := []
         acq := { s.acq with segs := s.acq.segs.set n.val { g with status := .opened } } }.reported
           { kind := 0x43#8, severity := .note
             body := u8 n.val ++ [4#8] ++ bytes2 s.stroke.number }))

/-- The phases of a calibration operation follow the end of a settle and of SHUNT_WAIT; a publishing
close counts a round of SHUNT_WAIT, whose eighth ends it, and adds one of AVERAGE, whose sixteenth
completes it; the sixteenth round of a TARE writes every participant's offset and status by the first
case that applies (02 R27 to R29, R31, R32; due list, log 2). -/
def Obligations.TareAveragesAndWritesOffsets : Prop :=
  (∀ (s : State) (r : CalRun), s.held = false → s.link.fed → s.cal.run = some r →
     (s.due = [.settleEnd] → r.phase = .waitSettle → r.job = .tare → exec .settleEnd s =
       .next { s with due := [], cal := { s.cal with
         run := some { r with phase := .average, rounds := 0 } } }) ∧
     (∀ j g rest, s.due = [.settleEnd] → r.phase = .waitSettle → r.job = .shunt j →
       j.groups = g :: rest → exec .settleEnd s =
       .next { s with due := [], cal := { s.cal with
         run := some { r with phase := .shuntWait, rounds := 0 }
         switches := (List.range 4).map fun k => decide (k = g) } }) ∧
     (s.due = [.shuntWaitEnd] → r.phase = .shuntWait → exec .shuntWaitEnd s =
       .next { s with due := [], cal := { s.cal with
         run := some { r with phase := .average, rounds := 0 } } })) ∧
  (∀ (bridges : List Int) (s : State), s.Ready → s.link.buffer ≠ .snapshot →
     s.acq.settleCount = 0 → ∃ t, exec (.conversionRoundClose bridges) s = .next t ∧
       t.cal = { s.cal with run := t.cal.run } ∧
       (s.cal.run = none → t.cal.run = none) ∧
       ∀ r, s.cal.run = some r →
         (r.phase = .waitSettle → t.cal.run = some r) ∧
         (r.phase = .shuntWait → t.cal.run = some { r with rounds := r.rounds + 1 } ∧
           (Due.shuntWaitEnd ∈ t.due ↔ r.rounds = 7)) ∧
         (r.phase = .average → ∃ q, t.cal.run = some q ∧
           q = { r with rounds := r.rounds + 1, sums := q.sums, rails := q.rails } ∧
           q.sums.length = r.sums.length ∧ q.rails.length = r.rails.length ∧
           (∀ (n : Nat) (x : Sample) (a : Int) (b : Bool), t.acq.latest.samples[n]? = some x →
             r.sums[n]? = some a → r.rails[n]? = some b →
             let railed : Bool := decide (x.raw = some 131071 ∨ x.raw = some (-131072))
             (n ∉ r.participants → q.sums[n]? = some a ∧ q.rails[n]? = some b) ∧
             (r.job = .tare → n ∈ r.participants →
               q.sums[n]? = some (a + x.raw.getD 0) ∧ q.rails[n]? = some (b || railed)) ∧
             (∀ j, r.job = .shunt j → n ∈ r.participants → j.groups.head? = some (n / 16) →
               q.sums[n]? = some (a + x.force) ∧ q.rails[n]? = some (b || railed)) ∧
             (∀ j, r.job = .shunt j → j.groups.head? ≠ some (n / 16) →
               q.sums[n]? = some a ∧ q.rails[n]? = some b)) ∧
           (r.job = .tare → (Due.tareCompletion ∈ t.due ↔ r.rounds = 15)) ∧
           (∀ j, r.job = .shunt j → (Due.shuntGroupJudged ∈ t.due ↔ r.rounds = 15)))) ∧
  (∀ (s : State) (r : CalRun), s.held = false → s.link.fed → s.due = [.tareCompletion] →
     s.cal.run = some r → r.job = .tare →
     ∃ segs : List Segment, segs.length = s.acq.segs.length ∧
       (∀ (n : Nat) (g : Segment), s.acq.segs[n]? = some g →
         let mean := roundDiv (r.sums.getD n 0) 16
         (n ∉ r.participants → segs[n]? = some g) ∧
         (n ∈ r.participants → segs[n]? = some { g with
           offset := max (-16384) (min 16383 mean)
           status := if r.rails.getD n false then .opened
             else if mean < -16384 ∨ 16383 < mean then .offsetLimit else g.status })) ∧
       exec .tareCompletion s = .next ({ s with
         due := []
         acq := { s.acq with segs := segs }
         cal := { run := none, switches := [false, false, false, false], tareValid := true }
         }.reported
           { kind := 0x41#8, severity := .info
             body := [1#8, 0#8, 0#8] ++
               u8 (r.participants.filter fun n => r.rails.getD n false = false ∧
                 (roundDiv (r.sums.getD n 0) 16 < -16384 ∨
                   16383 < roundDiv (r.sums.getD n 0) 16)).length ++
               [0#8, 0#8, 0#8] ++
               u8 (r.participants.filter fun n => r.rails.getD n false = true).length ++ [0#8] }))

/-- The sixteenth round of a group (02 R31 to R35): each participant of the group is judged by the
first case that applies, no other segment changes, the statuses written are tallied, and the next
group starts with empty accumulators or the check ends with its report (due list, log 2). -/
def Obligations.ShuntGroupIsJudged : Prop :=
  ∀ (s : State) (r : CalRun) (j : ShuntJob) (g : Nat) (rest : List Nat), s.held = false →
    s.link.fed → s.due = [.shuntGroupJudged] → s.cal.run = some r → r.job = .shunt j →
    j.groups = g :: rest →
    ∃ t k, exec .shuntGroupJudged s = .next t ∧
      ((∀ n ∈ r.participants, n < s.acq.segs.length) →
        let written (v : SegStatus) : Nat := (r.participants.filter fun n =>
          n / 16 = g ∧ (t.acq.segs.getD n Segment.initial).status = v).length
        k = { groups := rest, tolerance := j.tolerance, finished := j.finished ++ [g]
              tally := { ok := j.tally.ok + written .ok
                         shuntLow := j.tally.shuntLow + written .shuntLow
                         shuntHigh := j.tally.shuntHigh + written .shuntHigh
                         opened := j.tally.opened + written .opened
                         offsetLimit := j.tally.offsetLimit + written .offsetLimit } }) ∧
      k.groups = rest ∧ k.finished = j.finished ++ [g] ∧ k.tolerance = j.tolerance ∧
      t.acq.segs.length = s.acq.segs.length ∧
      (∀ (n : Nat) (x : Segment), s.acq.segs[n]? = some x →
        let force := roundDiv (r.sums.getD n 0) 16
        let band : Int := (x.shuntRef * j.tolerance / 100 : Nat)
        (n ∉ r.participants ∨ n / 16 ≠ g → t.acq.segs[n]? = some x) ∧
        (n ∈ r.participants → n / 16 = g → t.acq.segs[n]? = some { x with
          status := if x.status = .offsetLimit then .offsetLimit
            else if x.shuntRef = 0 then .shuntLow
            else if r.rails.getD n false then .opened
            else if force < x.shuntRef - band then .shuntLow
            else if x.shuntRef + band < force then .shuntHigh else .ok })) ∧
      t.cal.tareValid = s.cal.tareValid ∧
      (rest = [] → t.cal.run = none ∧ t.cal.switches = [false, false, false, false] ∧
        (s.link.reports.length < 16 → t.hasReport
          { kind := 0x41#8, severity := .info
            body := [2#8, 0#8] ++
              u8 ((if 0 ∈ k.finished then 1 else 0) + (if 1 ∈ k.finished then 2 else 0) +
                (if 2 ∈ k.finished then 4 else 0) + (if 3 ∈ k.finished then 8 else 0)) ++
              [0#8] ++ u8 k.tally.ok ++ u8 k.tally.shuntLow ++ u8 k.tally.shuntHigh ++
              u8 k.tally.opened ++ u8 k.tally.offsetLimit })) ∧
      (∀ next later, rest = next :: later → t.link = s.link ∧
        t.cal.switches = (List.range 4).map (fun k => decide (k = next)) ∧
        t.cal.run = some
          { job := .shunt k, phase := .shuntWait, rounds := 0, participants := r.participants
            sums := List.replicate 64 0, rails := List.replicate 64 false }) ∧
      t.stroke = s.stroke ∧ t.pos = s.pos ∧ t.guard = s.guard ∧ t.map = s.map ∧
      t.engine = s.engine ∧ t.profile = s.profile ∧ t.lines = s.lines ∧ t.due = []

/-! ### The ram -/

/-- The quadrature gives the direction (03 R40; what 'leads' means is the model's reading, log 16);
a count that changes no home and reaches no boundary moves the counter by one, and the phase's
level, alone (03 R41). -/
def Obligations.CountMovesTheCounter : Prop :=
  (∀ (p : Pos) (x y : Level), p.encA = x → p.encB = y →
     (p.direction = .aLeadsUp → (p.countsUp .a = true ↔ x = y) ∧ (p.countsUp .b = true ↔ x ≠ y)) ∧
     (p.direction = .bLeadsUp → (p.countsUp .a = true ↔ x ≠ y) ∧ (p.countsUp .b = true ↔ x = y))) ∧
  (∀ (ph : Phase) (s : State), s.Ready → s.pos.beyond ph = false →
     (s.counted ph).home = s.home →
     (s.stroke.state = .approach → (s.counted ph).pos.counter < s.stroke.params.captureStart) →
     (s.stroke.captureOpen = true → ∀ c, s.pos.copies = some c →
       c.limit ≤ s.pos.high ∨
       (s.counted ph).pos.counter < (c.start + s.pos.high * c.pitch : Nat)) →
     exec (.encoderCount ph) s = .next (s.counted ph))

/-- A count that takes the ram out of the home zone in READY starts a stroke (04 R66, 05 R87, R92,
10 R187), with nothing that would halt it at once. That this count is not tested against P0 is the
model's choice (log 13). -/
def Obligations.StrokeStartsWhenTheRamLeavesHome : Prop :=
  ∀ (ph : Phase) (s : State), s.Ready → s.pos.beyond ph = false → s.stroke.state = .ready →
    s.home = true → (s.counted ph).home = false → s.cal.run = none → s.guard.sensed = .high →
    s.guardOk = true → (s.homeAssigned = true ∨ s.pos.referenced = true) →
    s.stroke.captureOpen = false →
    let number := s.stroke.number + 1
    exec (.encoderCount ph) s = .next ({ s.counted ph with
      stroke := { s.stroke with
        number := number, outcome := .none, secondary := none, secondaryCount := 0
        seat := none, captured := false, state := .approach }
      engine := { s.engine with results := [], summary := none, valid := false }
      lines := { s.lines with indication := .none }
      guard := { s.guard with
        segPersist := List.replicate 64 0, totalPersist := 0, tripGiven := false, trip := none
        counting := false, overtravel := 0, overtravelGiven := false }
      link := { s.link with
        watchdog := if s.link.interval = 0 then none else some s.link.interval
        expiries := if s.link.interval = 0 then s.link.expiries else 0 } }.reported
        { kind := 0x40#8, severity := .info
          body := [2#8, 0#8] ++ bytes2 number ++ u16 (s.pos.lastStation.getD 0xFFFF) })

/-- The count that brings APPROACH to P0 enters CAPTURE, empties the profile, and latches station 0
(04 R68, 03 R48, 08 R149), where station 0 neither seats nor ends the travel. The last station the
report gives is the model's choice (log 15), and the total of a record whose segment was disabled after
the publication its reading (log 39). -/
def Obligations.CaptureEntryLatchesStationZero : Prop :=
  ∀ (ph : Phase) (s : State), s.Ready → s.pos.beyond ph = false → s.stroke.state = .approach →
    (s.counted ph).home = s.home → s.guard.counting = false →
    (s.stroke.params.captureStart : Int) ≤ (s.counted ph).pos.counter →
    (s.counted ph).pos.counter < s.stroke.params.endPosition →
    2 ≤ s.stroke.params.maxStations → 1 ≤ s.stroke.params.span →
    (s.stroke.params.mode = .force ∨
      (s.counted ph).pos.counter < s.stroke.params.seatPosition) →
    exec (.encoderCount ph) s = .next ({ s with
      stroke := { s.stroke with
        state := .capture, captureOpen := true, quiet := .running, captured := true }
      pos := { (s.counted ph).pos with
        high := 1, roundSinceLatch := false
        copies := some { start := s.stroke.params.captureStart, pitch := s.stroke.params.pitch
                         limit := s.stroke.params.maxStations } }
      profile :=
        { records := [{ s.stationNow with
            index := 0, stale := false, position := (s.counted ph).pos.counter }]
          condition := .capturing, number := s.stroke.number } }.reported
        { kind := 0x40#8, severity := .info
          body := [3#8, 0#8] ++ bytes2 s.stroke.number ++ u16 (s.pos.lastStation.getD 0xFFFF) })

/-- A latch in CAPTURE (03 R49 to R51, 04 R69 to R72, R76): the record is appended, and the stroke
goes on, seats, or halts with NO_SEAT. The latch that reaches the station limit closes capture and
ends the travel, and a dwell of 0 expires where HOLD is entered. That the quiet timer stops with
capture, and the total of a record whose segment was disabled after the publication, are the model's
readings (logs 25 and 39). -/
def Obligations.LatchSeatsOrEndsTheTravel : Prop :=
  ∀ (ph : Phase) (s : State), s.Ready → s.pos.beyond ph = false → s.stroke.state = .capture →
    s.stroke.captureOpen = true → s.home = false → (s.counted ph).home = false →
    s.guard.counting = false → s.pos.copies = some s.stroke.params.copies →
    s.pos.high + 1 ≤ s.stroke.params.maxStations →
    ((s.stroke.params.captureStart + s.pos.high * s.stroke.params.pitch : Nat) : Int) ≤
      (s.counted ph).pos.counter →
    let t := if s.pos.high + 1 = s.stroke.params.maxStations then
      (s.counted ph).latched.captureEnded else (s.counted ph).latched
    let r := (s.counted ph).stationNow
    (¬t.seatingMet r → s.pos.high + 1 < s.stroke.params.maxStations →
      (s.counted ph).pos.counter < s.stroke.params.endPosition →
      exec (.encoderCount ph) s = .next t) ∧
    (¬t.seatingMet r → s.pos.high + 1 = s.stroke.params.maxStations ∨
        (s.stroke.params.endPosition : Int) ≤ (s.counted ph).pos.counter →
      exec (.encoderCount ph) s = .next (t.haltedBy .noSeat)) ∧
    (t.seatingMet r → s.stroke.params.dwell = 0 →
      exec (.encoderCount ph) s = .next (t.seatedAt s.pos.high).retracted) ∧
    (t.seatingMet r → s.stroke.params.dwell ≠ 0 →
      exec (.encoderCount ph) s = .next ({ t with
        stroke := { t.stroke with
          state := .hold, outcome := .seatedOk, seat := some s.pos.high
          dwell := some s.stroke.params.dwell }
        guard := { t.guard with
          reasons := { t.guard.reasons with stroke := true }
          readback := if t.guard.reasons.isEmpty = true ∧ t.guard.sensed = Level.high then .running
            else t.guard.readback
          counting := t.guard.reasons.isEmpty }
        link := { t.link with watchdog := none } }.reported
          { kind := 0x40#8, severity := .info
            body := [4#8, 1#8] ++ bytes2 s.stroke.number ++ u16 s.pos.high }))

/-- A latch in HOLD or HALTED counts toward overtravel, and the count that first exceeds the
allowance makes OVERTRAVEL due, which locks the head out or counts a repeat and gives the halt cause
(05 R93, R96, R97, 04 R72 to R74). The due list is the model's own (log 2); the total of a record whose
segment was disabled after the publication (log 39), the order of LOCKOUT and STROKE_EVENT (log 37),
that L is none for a stroke that never captured (log 14) and that the quiet timer stops with capture
(log 25) are its readings. -/
def Obligations.OvertravelIsCountedAndLocksOut : Prop :=
  (∀ (ph : Phase) (s : State), s.Ready → s.pos.beyond ph = false →
    (s.stroke.state = .hold ∨ s.stroke.state = .halted) → s.stroke.captureOpen = true →
    s.home = false → (s.counted ph).home = false → s.guard.counting = true →
    s.guard.overtravel < 1024 → s.pos.copies = some s.stroke.params.copies →
    s.pos.high + 1 < s.stroke.params.maxStations →
    ((s.stroke.params.captureStart + s.pos.high * s.stroke.params.pitch : Nat) : Int) ≤
      (s.counted ph).pos.counter →
    exec (.encoderCount ph) s = .next { (s.counted ph).latched with
      guard := { s.guard with overtravel := s.guard.overtravel + 1 }
      due := if s.guard.overtravelGiven = false ∧
          s.stroke.params.allowance < s.guard.overtravel + 1 then [.overtravel] else [] }) ∧
  (∀ s : State, s.held = false → s.due = [.overtravel] → s.link.fed →
    let e : State := { s with due := [], guard := { s.guard with overtravelGiven := true } }
    let u : State :=
      if s.guard.lockout.latched then e.repeated
      else (State.lockedOut .overtravel none e).reported
        (lockoutReport (s.newLockout .overtravel none))
    (s.stroke.state.returning = true → exec .overtravel s = .next (u.secondaryBy .overtravel)) ∧
    (s.stroke.state = .hold → s.home = false →
      exec .overtravel s = .next (u.heldBy .overtravel)) ∧
    (s.stroke.state = .hold → s.home = true →
      exec .overtravel s = .next (u.heldBy .overtravel).ended) ∧
    (s.stroke.state.descending = true → s.home = false →
      exec .overtravel s = .next (u.haltedBy .overtravel)) ∧
    (s.stroke.state.descending = true → s.home = true →
      exec .overtravel s = .next (u.haltedBy .overtravel).ended) ∧
    (s.stroke.state ∈ [StrokeState.disarmed, .evaluate, .complete] ∨
        (s.stroke.state = .ready ∧ s.guard.lockout.latched = true) →
      exec .overtravel s = .next u))

/-- The ram reaching home in HALTED or RETRACT ends the stroke (04 R77, 07 R123): STROKE is removed,
capture closed, the engine started with the inputs as they stand, EVALUATE entered. That L is none
for a stroke that never captured, and that the quiet timer stops, are the model's readings (logs 14
and 25). -/
def Obligations.HomeEndsTheStroke : Prop :=
  ∀ (ph : Phase) (s : State), s.Ready → s.pos.beyond ph = false →
    s.stroke.state.returning = true → s.home = false → (s.counted ph).home = true →
    s.guard.reasons.resetHold = false →
    let left : StopSet := { s.guard.reasons with stroke := false }
    exec (.encoderCount ph) s = .next ({ s.counted ph with
      stroke := { s.stroke with
        state := .evaluate, captureOpen := false
        quiet := if s.stroke.captureOpen then .stopped else s.stroke.quiet }
      profile := { s.profile with
        condition := if s.stroke.captureOpen then .closed else s.profile.condition }
      guard := { s.guard with
        reasons := left, readback := if left.lockout then s.guard.readback else .stopped }
      engine := { s.engine with
        work := WorkTable.empty
        run := some {
          last := if s.stroke.captured = true ∧ s.pos.high ≠ 0 then some (s.pos.high - 1) else none
          pitch := (s.pos.copies.map StationCopies.pitch).getD 0
          usable := s.acq.segs.map fun (g : Segment) => g.enabled && !g.masked && g.status == SegStatus.ok
          number := s.stroke.number, outcome := s.stroke.outcome
          secondary := s.stroke.secondary, secondaryCount := s.stroke.secondaryCount
          seat := s.stroke.seat, trip := s.guard.trip, overtravel := s.guard.overtravel } }
      }.reported
        { kind := 0x40#8, severity := .info
          body := [7#8] ++ u8 s.stroke.outcome.code ++ bytes2 s.stroke.number ++
            u16 (s.pos.lastStation.getD 0xFFFF) })

/-- An encoder fault, a transition of both phases or a count beyond the limit, makes no count, clears
the reference, is reported with its reason, and halts APPROACH, CAPTURE and HOLD; with the ram home by
its position it loses home, which in READY starts a stroke that it halts (03 R41, R42, R47; the order
of report and home is the model's reading, log 32; one phase within the limits is no fault, log 4). With
a HOME line assigned it leaves home as it is, and a halt with the ram home ends the stroke (04 R77). A
reference pulse sets the counter to 0 and references it, reporting a slip (03 R44, R45), and so may
bring the ram home, never away from it (that ENC_Z is then held high is log 21, and that the report
goes before home is log 36). That L is none for a stroke that never captured, and that the quiet timer
stops with capture, are the model's readings (logs 14 and 25). -/
def Obligations.EncoderFaultsAndReferencePulses : Prop :=
  (∀ (ph : Phase) (p : Pos), -8388608 ≤ p.counter → p.counter ≤ 8388607 →
     (p.beyond ph = true ↔ (p.counter = 8388607 ∧ p.countsUp ph = true) ∨
       (p.counter = -8388608 ∧ p.countsUp ph = false))) ∧
  (∀ (ph : Phase) (s : State), s.Ready → s.pos.beyond ph = false →
     exec (.encoderFault (.one ph)) s = .next s) ∧
  (∀ (s : State) (c : Instr) (reason : Nat) (p : Pos), s.Ready → s.homeAssigned = false →
     s.faults c reason p →
     let u : State := { s with pos := p }
     let event (severity : Severity) : Report :=
       { kind := 0x44#8, severity := severity
         body := [0#8] ++ u8 reason ++ i24 s.pos.counter ++ u8 s.stroke.state.code ++
           bytes2 s.stroke.number }
     (s.stroke.state.guarded = false →
       s.home = false ∨ (s.cal.run = none ∧ s.stroke.state ≠ .ready) →
       exec c s = .next (u.reported (event (if s.stroke.state.returning then .stroke else .note)))) ∧
     (∀ r, s.stroke.state.guarded = false → s.stroke.state ≠ .ready → s.home = true →
       s.cal.run = some r → exec c s =
         .next (u.reported (event (if s.stroke.state.returning then .stroke else .note))).abandoned) ∧
     (s.stroke.state = .ready → s.home = true → s.cal.run = none → s.guard.sensed = .high →
       s.guardOk = true →
       exec c s = .next ((u.reported (event .note)).started.haltedBy .encoderFault)) ∧
     (s.stroke.state.descending = true → s.home = false ∨ s.cal.run = none →
       exec c s = .next ((u.reported (event .stroke)).haltedBy .encoderFault)) ∧
     (s.stroke.state = .hold → s.home = false ∨ s.cal.run = none →
       exec c s = .next ((u.reported (event .stroke)).heldBy .encoderFault))) ∧
  (∀ (s : State) (c : Instr) (reason : Nat) (p : Pos), s.Ready → s.homeAssigned = true →
     s.faults c reason p →
     let u (severity : Severity) : State := State.reported
       { kind := 0x44#8, severity := severity
         body := [0#8] ++ u8 reason ++ i24 s.pos.counter ++ u8 s.stroke.state.code ++
           bytes2 s.stroke.number } { s with pos := p }
     (s.stroke.state.guarded = false →
       exec c s = .next (u (if s.stroke.state.returning then .stroke else .note))) ∧
     (s.stroke.state.descending = true → exec c s = .next
       (if s.home then ((u .stroke).haltedBy .encoderFault).ended
        else (u .stroke).haltedBy .encoderFault)) ∧
     (s.stroke.state = .hold → exec c s = .next
       (if s.home then ((u .stroke).heldBy .encoderFault).ended
        else (u .stroke).heldBy .encoderFault))) ∧
  (∀ (s : State), s.Ready →
     let u : State := { s with pos := { s.pos with
       counter := 0, referenced := true, encZ := .high } }
     let v : State :=
       if s.pos.referenced = true ∧ (s.pos.counter < -2 ∨ 2 < s.pos.counter) then u.reported
         { kind := 0x44#8
           severity := if s.stroke.state ∈ [StrokeState.approach, .capture, .hold] then .stroke
             else .note
           body := [1#8, 0#8] ++ i24 s.pos.counter ++ u8 s.stroke.state.code ++
             bytes2 s.stroke.number }
       else u
     (s.home = true → u.home = true) ∧
     (u.home = s.home → exec .referencePulse s = .next v) ∧
     (s.home = false → u.home = true → s.stroke.state.returning = false →
       exec .referencePulse s = .next v.holdReleased) ∧
     (s.home = false → u.home = true → s.stroke.state.returning = true →
       exec .referencePulse s = .next v.holdReleased.ended))

/-- The dwell expires in HOLD only and enters RETRACT, closing capture if it is still open, and ends the
stroke there when the ram is home; the quiet timer's expiry is marked in CAPTURE and closes capture in
HOLD and HALTED (04 R71, R76, R77). That an expiry of no running timer changes nothing is the model's
choice (log 4); that L is none for a stroke that never captured, and that the quiet timer stops with
capture, are its readings (logs 14 and 25). -/
def Obligations.TimersExpireByState : Prop :=
  ∀ s : State, s.Ready →
    (s.stroke.state ≠ .hold ∨ s.stroke.dwell = none → exec .dwellExpiry s = .next s) ∧
    (s.stroke.state = .hold → s.stroke.dwell.isSome = true → s.home = false →
      exec .dwellExpiry s = .next s.retracted) ∧
    (s.stroke.state = .hold → s.stroke.dwell.isSome = true → s.home = true →
      exec .dwellExpiry s = .next s.retracted.ended) ∧
    (s.stroke.quiet = .running → s.stroke.state ≠ .capture → s.stroke.captureOpen = false →
      exec .quietTimerExpiry s = .next s) ∧
    (s.stroke.quiet ≠ .running → exec .quietTimerExpiry s = .next s) ∧
    (s.stroke.quiet = .running → s.stroke.state = .capture → exec .quietTimerExpiry s =
      .next { s with stroke := { s.stroke with quiet := .expired } }) ∧
    (s.stroke.quiet = .running → s.stroke.state ≠ .capture → s.stroke.captureOpen = true →
      exec .quietTimerExpiry s = .next { s with
        stroke := { s.stroke with captureOpen := false, quiet := .stopped }
        profile := { s.profile with condition := .closed } })

/-- The engine completes at one event (07 R122, R124, R139 to R145): the working table with the records
still to form becomes the results, one per record in map order; the summary holds the six counts, the
peak total and the work; COMPLETE is entered, RESULT_READY posted and the indication driven. An idle
step works on by one segment and keeps the table a first part of the results (how far the table has
come at a moment is the model's choice, log 22). -/
def Obligations.EvaluationCompletes : Prop :=
  (∀ (s : State) (i : EvalInputs) (rs all : List ResultRecord) (m : Summary) (taken : List Station),
    s.Ready → s.engine.run = some i → all = evaluateResults s.map s.profile i →
    rs = s.engine.work.records ++ all.drop s.engine.work.records.length →
    m = evaluateSummary rs s.profile i →
    taken = (match i.last with | some l => s.profile.records.take (l + 1) | none => []) →
      (s.engine.work.records <+: all → rs = all) ∧
      all.map ResultRecord.pin = s.map.active.map PinRecord.pin ∧
      all.map ResultRecord.segment = s.map.active.map PinRecord.segment ∧
      all.map ResultRecord.engage = s.map.active.map PinRecord.engage ∧
      m.number = i.number ∧ m.outcome = i.outcome ∧ m.secondary = i.secondary ∧
      m.secondaryCount = i.secondaryCount ∧ m.trip = i.trip ∧ m.seat = i.seat ∧
      m.last = i.last ∧ m.overtravel = i.overtravel ∧
      m.counts.pass = (rs.filter fun r => r.verdict = .pass).length ∧
      m.counts.low = (rs.filter fun r => r.verdict = .low).length ∧
      m.counts.high = (rs.filter fun r => r.verdict = .high).length ∧
      m.counts.absent = (rs.filter fun r => r.verdict = .absent).length ∧
      m.counts.notReached = (rs.filter fun r => r.verdict = .notReached).length ∧
      m.counts.unverified = (rs.filter fun r => r.verdict = .unverified).length ∧
      m.counts.pass + m.counts.low + m.counts.high + m.counts.absent + m.counts.notReached +
        m.counts.unverified = rs.length ∧
      (taken = [] → m.peak = none) ∧
      (∀ (n : Nat) (x : Station), taken[n]? = some x → (∀ y ∈ taken, y.total ≤ x.total) →
        (∀ y ∈ taken.take n, y.total < x.total) → m.peak = some (x.total, x.index)) ∧
      m.work = (max 0 (min 4294967295
        (roundDiv ((taken.map Station.total).sum * i.pitch) 10000))).toNat ∧
      (m.result = .pass ↔ i.outcome = .seatedOk ∧ i.secondary = none ∧
        ∀ r ∈ rs, r.verdict = .pass) ∧
      (m.result = .incomplete ↔ i.outcome = .seatedOk ∧ i.secondary = none ∧
        (∀ r ∈ rs, r.verdict = .pass ∨ r.verdict = .unverified) ∧
        ∃ r ∈ rs, r.verdict = .unverified) ∧
      exec .evaluationCompletion s = .next ({ s with
        engine := { run := none, work := { records := [], clusters := [] }, results := rs
                    summary := some m, valid := true }
        stroke := { s.stroke with state := .complete }
        lines := { s.lines with
          indication := match m.result with | .pass => .pass | .incomplete | .fail => .fail }
        }.reported
          { kind := 0x42#8, severity := .info
            body := bytes2 m.number ++ u8 m.result.code ++ u16 m.counts.pass ++
              u16 m.counts.low ++ u16 m.counts.high ++ u16 m.counts.absent ++
              u16 m.counts.notReached ++ u16 m.counts.unverified })) ∧
  (∀ (s : State) (i : EvalInputs), s.pending = [] → s.due = [] → s.held = false →
    s.engine.run = some i → s.engine.work.records <+: evaluateResults s.map s.profile i →
    ∃ t, step s = .next t ∧ t.engine = { s.engine with work := t.engine.work } ∧
      t.map = s.map ∧ t.profile = s.profile ∧
      t.engine.work.records <+: evaluateResults t.map t.profile i ∧
      (∀ (k : Nat) (r : ResultRecord), (evaluateResults s.map s.profile i)[k]? = some r →
        k = s.engine.work.records.length →
        k < t.engine.work.records.length ∧
        (∀ x ∈ t.engine.work.records.drop k, x.segment = r.segment) ∧
        ∀ c ∈ t.engine.work.clusters, c.segment = r.segment))

/-- The verdict of a pin (07 R130, R131, R138, R139): UNVERIFIED, NOT_REACHED, or the first case by
the share of the cluster that holds its cohort and by its own class; share, size and flags are that
cluster's. -/
def Obligations.VerdictsFollowTheShare : Prop :=
  ∀ (m : MapUnit) (p : Profile) (i : EvalInputs) (k : Nat) (pin : PinRecord) (c : WindowClass)
    (r : ResultRecord), m.active[k]? = some pin → m.classes.getD pin.cls none = some c →
    (∀ q ∈ m.active, q.segment = pin.segment → q.engage = pin.engage → q.cls = pin.cls) →
    m.active.Pairwise mapOrdered →
    (evaluateResults m p i)[k]? = some r →
    (i.usable.getD pin.segment false = false → r.verdict = .unverified ∧ r.share = none) ∧
    (i.usable.getD pin.segment false = true →
      (∀ l, i.last = some l → (l : Int) < (pin.engage : Int) - c.lead) →
      r.verdict = .notReached ∧ r.share = none) ∧
    (∀ l, i.usable.getD pin.segment false = true → i.last = some l →
      (pin.engage : Int) - c.lead ≤ l → ∃ share n, r.share = some share ∧ r.size = some n ∧
        (∃ q ∈ clustersOf ((cohortsOf m m.active).filter i.judges),
          q.segment = pin.segment ∧ pin.engage ∈ q.members ∧ n = q.size ∧
          share = (judge (p.records.take (l + 1)) l q).share ∧
          r.flags = (judge (p.records.take (l + 1)) l q).flags) ∧
        1 ≤ n ∧ -32768 ≤ share ∧ share ≤ 32767 ∧
        r.verdict = (if r.flags.sat then .high else if (c.high : Int) < share then .high
          else if share < c.absent then .absent else if share < c.low then .low else .pass))

/-! ### The stop line and the station lines -/

/-- STOP_N taken at a new level (05 R84 to R86, R92), and a readback failure (05 R85): over a cleared
lockout it latches one and reports it, over a latched one it counts a repeat (05 R96, R97), and the
halt cause is taken by each stroke state (04 R67, R72 to R74), ending the stroke where the ram is home
(04 R77). That a level already sensed, or an expiry of a timer that does not run, changes nothing is
the model's choice (log 4); the order of LOCKOUT and STROKE_EVENT (log 37), that L is none for a stroke
that never captured (log 14) and that the quiet timer stops with capture (log 25) are its readings. -/
def Obligations.StopLineIsSensedAndReadBack : Prop :=
  (∀ s : State, s.Ready →
     (∀ level, s.guard.sensed = level → exec (.stopNSenseChange level) s = .next s) ∧
     (s.guard.sensed = .high →
       ¬(s.guard.reasons.isEmpty = true ∧ s.stroke.state.descending = true) →
       exec (.stopNSenseChange .low) s = .next { s with
         guard := { s.guard with
           sensed := .low, readback := .stopped
           counting := s.guard.counting || decide (s.stroke.state ∈
             [StrokeState.approach, .capture, .hold, .halted]) } }) ∧
     (s.guard.sensed = .high → s.guard.reasons.isEmpty = true →
       s.stroke.state.descending = true → s.home = false →
       exec (.stopNSenseChange .low) s = .next (State.haltedBy .externalStop
         { s with
           guard := { s.guard with sensed := .low, readback := .stopped, counting := true } })) ∧
     (s.guard.sensed = .low → exec (.stopNSenseChange .high) s = .next { s with
       guard := { s.guard with
         sensed := .high
         readback := if s.guard.reasons.isEmpty then s.guard.readback else .running } })) ∧
  (∀ s : State, s.Ready →
     (s.guard.readback ≠ .running → exec .readbackTimerExpiry s = .next s) ∧
     (s.guard.readback = .running →
       let e : State := { s with guard := { s.guard with readback := .expired } }
       let u : State :=
         if s.guard.lockout.latched then e.repeated
         else (State.lockedOut .stopReadback none e).reported
           (lockoutReport (s.newLockout .stopReadback none))
       (s.stroke.state ∈ [StrokeState.disarmed, .evaluate, .complete] →
         exec .readbackTimerExpiry s = .next u) ∧
       (s.stroke.state = .ready → s.guard.lockout.latched = true →
         exec .readbackTimerExpiry s = .next u) ∧
       (s.stroke.state = .ready → s.guard.lockout.latched = false →
         exec .readbackTimerExpiry s = .next
           (State.reported (lockoutReport (s.newLockout .stopReadback none))
             (State.reported
               { kind := 0x40#8, severity := .info
                 body := [0#8, 6#8] ++ bytes2 s.stroke.number ++
                   u16 (s.pos.lastStation.getD 0xFFFF) }
               { State.lockedOut .stopReadback none e with
                 stroke := { s.stroke with state := .disarmed }
                 link := { s.link with watchdog := none } }))) ∧
       (s.stroke.state.returning = true →
         exec .readbackTimerExpiry s = .next (u.secondaryBy .stopReadback)) ∧
       (s.stroke.state.descending = true → exec .readbackTimerExpiry s = .next
         (if s.home then (u.haltedBy .stopReadback).ended else u.haltedBy .stopReadback)) ∧
       (s.stroke.state = .hold → exec .readbackTimerExpiry s = .next
         (if s.home then (u.heldBy .stopReadback).ended else u.heldBy .stopReadback))))

/-- A filtered change of a line (09 R165, R172, 05 R94, 04 R57): the level is taken, a GUARD that opens
in a descent or dwell halts the stroke, a loss of home abandons a calibration operation and starts a
stroke in READY, and reaching home releases a reset hold and ends a stroke in HALTED or RETRACT (02
R37, 04 R66, R77, 05 R101). That the level already filtered is no change is the model's choice
(log 4); that L is none for a stroke that never captured, and that the quiet timer stops with capture,
are its readings (logs 14 and 25). -/
def Obligations.FilteredChangeIsTaken : Prop :=
  ∀ (n : Fin 8) (level : Level) (s : State) (l : Line), s.Ready →
    s.lines.lines[n.val]? = some l →
    let t : State := { s with
      lines := { s.lines with lines := s.lines.lines.set n.val { l with filtered := level } } }
    (l.filtered = level → exec (.lineFilterChange n level) s = .next s) ∧
    (l.filtered ≠ level → t.home = s.home →
      ¬(s.guardOk = true ∧ t.guardOk = false ∧ s.stroke.state.guarded = true) →
      exec (.lineFilterChange n level) s = .next t) ∧
    (l.filtered ≠ level → t.home = s.home → s.guardOk = true → t.guardOk = false →
      s.stroke.state.descending = true → s.home = false →
      exec (.lineFilterChange n level) s = .next (t.haltedBy .guardOpen)) ∧
    (l.filtered ≠ level → t.home = s.home → s.guardOk = true → t.guardOk = false →
      s.stroke.state = .hold → s.home = false →
      exec (.lineFilterChange n level) s = .next (t.heldBy .guardOpen)) ∧
    (l.filtered ≠ level → s.home = true → t.home = false → t.guardOk = s.guardOk →
      s.stroke.state ≠ .ready → exec (.lineFilterChange n level) s = .next t.abandoned) ∧
    (l.filtered ≠ level → s.home = true → t.home = false → t.guardOk = s.guardOk →
      s.stroke.state = .ready → s.cal.run = none → s.guard.sensed = .high → s.guardOk = true →
      t.homeAssigned = true → exec (.lineFilterChange n level) s = .next t.started) ∧
    (l.filtered ≠ level → s.home = false → t.home = true → t.guardOk = s.guardOk →
      s.stroke.state.returning = false →
      exec (.lineFilterChange n level) s = .next t.holdReleased) ∧
    (l.filtered ≠ level → s.home = false → t.home = true → t.guardOk = s.guardOk →
      s.stroke.state.returning = true →
      exec (.lineFilterChange n level) s = .next t.holdReleased.ended)

/-- ABORT (04 R75): answered OK, it halts a descent with outcome ABORTED and cuts a dwell with ABORTED
as its secondary cause or count, each with its STROKE_EVENT and ending the stroke where the ram is home
(04 R72, R73, R77); it disarms READY, and is refused elsewhere. The order of the OK and the report is a
free choice (log 8); that L is none for a stroke that never captured, and that the quiet timer stops
with capture, are the model's readings (logs 14 and 25). -/
def Obligations.AbortHaltsTheStroke : Prop :=
  ∀ s : State, s.Serving →
    (s.stroke.state.descending = true → s.home = false →
      State.answersOk 0x14#8 s (s.haltedBy .aborted) (exec .abort s)) ∧
    (s.stroke.state.descending = true → s.home = true →
      State.answersOk 0x14#8 s (s.haltedBy .aborted).ended (exec .abort s)) ∧
    (s.stroke.state = .hold → s.home = false →
      State.answersOk 0x14#8 s (s.heldBy .aborted) (exec .abort s)) ∧
    (s.stroke.state = .hold → s.home = true →
      State.answersOk 0x14#8 s (s.heldBy .aborted).ended (exec .abort s)) ∧
    (s.stroke.state = .ready →
      exec .abort s = .next ({ s with
        stroke := { s.stroke with state := .disarmed }
        link := { s.link with watchdog := none } }.replied 0x14#8 .ok [])) ∧
    (s.stroke.state ∈ [StrokeState.disarmed, .halted, .retract, .evaluate, .complete] →
      exec .abort s = .next (s.replied 0x14#8 .state []))

/-! ### The whole machine -/

/-- Queues and counters keep their bounds, and no frame waits for a free transmitter, after every
command. -/
def Obligations.LinkBoundsAreKept : Prop :=
  ∀ (c : Instr) (s t : State), s.LinkBounds → exec c s = .next t → t.LinkBounds

/-- Records, counts and sample sets keep their shapes and ranges after every command. -/
def Obligations.StoreBoundsAreKept : Prop :=
  ∀ (c : Instr) (s t : State), s.StoreBounds → exec c s = .next t → t.StoreBounds

/-- The ties of the stroke state to home, the stop line, the lockout, the timers, capture, the
profile, the engine and the calibration unit hold after every step that found them. That the quiet
timer stops with capture is the model's reading (log 25), and how the working table comes to be filled
is its choice (log 22). -/
def Obligations.StrokeTiesAreKept : Prop :=
  ∀ s t : State, s.StrokeTies → step s = .next t → t.StrokeTies

/-- The state right after reset meets all three. -/
def Obligations.ResetMeetsTheConditions : Prop :=
  ∀ w : Straps, (State.released w).LinkBounds ∧ (State.released w).StoreBounds ∧
    (State.released w).StrokeTies

/-- A latched lockout is cleared by a LOCKOUT_CLEAR or a power-on reset alone (05 R95 to R99): a
command that finds it latched and leaves it cleared is one of these, or the byte that completes a good
frame of LOCKOUT_CLEAR. -/
def Obligations.OnlyAClearReleasesALockout : Prop :=
  ∀ (c : Instr) (s t : State), exec c s = .next t → s.guard.lockout.latched = true →
    t.guard.lockout.latched = false →
    (c = .lockoutClear ∨ c = .powerOnReset ∨ (∃ w, c = .powerOnResetRelease w) ∨
      (∃ n a b, (c = .byteTaken b ∨ c = .frameReceived b) ∧
        s.link.receiver = .check n [0x19#8] (some a) ∧ crc [n, 0x19#8] = a ++ b)) ∧
    ((∃ b, c = .byteTaken b ∨ c = .frameReceived b) →
      s.link.buffer = .empty ∨ s.due ≠ [])

/-- The stroke number changes only from READY, by one, and is otherwise kept by every command but
power-on reset (04 R66; that it advances there is O42's). -/
def Obligations.StrokeNumberChangesOnlyFromReady : Prop :=
  ∀ (c : Instr) (s t : State), exec c s = .next t → c ≠ .powerOnReset →
    (∀ w, c ≠ .powerOnResetRelease w) →
    t.stroke.number = s.stroke.number ∨
      (t.stroke.number = s.stroke.number + 1 ∧ s.stroke.state = .ready)

/-! ### The engine's arithmetic -/

/-- The cohorts of a sorted map are its records by segment and engage station (06 R115, 07 R129); the
clusters of the judged cohorts are runs of them, each cohort joining while its baseline window starts
no later than the peak-window end of those before it on its segment (07 R132, R133); a cluster's share
and flags follow from the baseline mean and the greatest force of its windows (07 R134 to R137). -/
def Obligations.ClustersAndSharesFollowTheProfile : Prop :=
  (∀ m : MapUnit, m.active.Pairwise mapOrdered →
     (∀ p ∈ m.active, ∀ q ∈ m.active, p.segment = q.segment → p.engage = q.engage →
       p.cls = q.cls) →
     (∀ c ∈ cohortsOf m m.active, 1 ≤ c.pins ∧ c.pins =
       (m.active.filter fun p => p.segment = c.segment ∧ p.engage = c.engage).length) ∧
     (∀ p ∈ m.active, ∃ c ∈ cohortsOf m m.active, c.segment = p.segment ∧ c.engage = p.engage ∧
       ∀ w, m.classes.getD p.cls none = some w → c.cls = w) ∧
     (cohortsOf m m.active).Pairwise (fun c d =>
       c.segment < d.segment ∨ (c.segment = d.segment ∧ c.engage < d.engage))) ∧
  (∀ cs : List Cohort,
     let peakEnd (c : Cohort) : Int := (c.engage : Int) + c.cls.lead + c.cls.span - 1
     let baseStart (c : Cohort) : Int := (c.engage : Int) - c.cls.lead - c.cls.depth
     ∃ groups : List (List Cohort), groups.flatten = cs ∧
       groups.length = (clustersOf cs).length ∧
       ∀ (n : Nat) (g : List Cohort) (k : Cluster), groups[n]? = some g →
         (clustersOf cs)[n]? = some k →
         (∃ c rest, g = c :: rest ∧ k.segment = c.segment ∧ k.baseLo = baseStart c ∧
           k.baseHi = (c.engage : Int) - c.cls.lead - 1 ∧
           k.peakLo = (c.engage : Int) - c.cls.lead) ∧
         (∀ c ∈ g, c.segment = k.segment ∧ peakEnd c ≤ k.peakHi) ∧
         (∃ c ∈ g, k.peakHi = peakEnd c) ∧
         k.size = (g.map Cohort.pins).sum ∧
         (∀ e, e ∈ k.members ↔ ∃ c ∈ g, c.engage = e) ∧
         (∀ a c b, g = a ++ c :: b → a ≠ [] → ∃ d ∈ a, baseStart c ≤ peakEnd d) ∧
         (∀ c rest, groups[n + 1]? = some (c :: rest) →
           c.segment ≠ k.segment ∨ ∀ d ∈ g, peakEnd d < baseStart c)) ∧
  (∀ (records : List Station) (last : Nat) (k : Cluster), records.length = last + 1 →
     k.peakLo ≤ last → 0 ≤ k.peakHi → k.peakLo ≤ k.peakHi →
     let window (lo hi : Int) : List Station :=
       (records.zipIdx.filter fun x => lo ≤ (x.2 : Int) ∧ (x.2 : Int) ≤ hi).map Prod.fst
     let base := (window k.baseLo k.baseHi).map fun (x : Station) => x.forces.getD k.segment 0
     let peak := window k.peakLo k.peakHi
     let baseline : Int := if base = [] then 0 else roundDiv base.sum base.length
     let j := judge records last k
     (∀ top ∈ peak, (∀ x ∈ peak, x.forces.getD k.segment 0 ≤ top.forces.getD k.segment 0) →
       j.share = max (-32768) (min 32767
         (roundDiv (top.forces.getD k.segment 0 - baseline) k.size))) ∧
     peak ≠ [] ∧
     (j.flags.baseClipped = true ↔ k.baseLo < 0) ∧
     (j.flags.truncated = true ↔ (last : Int) < k.peakHi) ∧
     (j.flags.sparse = true ↔ peak.length < 2 * (peak.filter Station.stale).length) ∧
     (j.flags.sat = true ↔ ∃ x ∈ peak, x.sats.getD k.segment false = true))
end

