-- ==== Sys2Proof/Laws/State.lean ====
section
/-! SUPPORT. What each block update leaves of every field of the state: one lemma per field per
update. -/

namespace Sys2Proof.Machine

section onAcq

variable (f : Acq → Acq) (s : State)

@[simp] theorem State.onAcq_held : (s.onAcq f).held = s.held := rfl
@[simp] theorem State.onAcq_acq : (s.onAcq f).acq = f s.acq := rfl
@[simp] theorem State.onAcq_cal : (s.onAcq f).cal = s.cal := rfl
@[simp] theorem State.onAcq_pos : (s.onAcq f).pos = s.pos := rfl
@[simp] theorem State.onAcq_profile : (s.onAcq f).profile = s.profile := rfl
@[simp] theorem State.onAcq_stroke : (s.onAcq f).stroke = s.stroke := rfl
@[simp] theorem State.onAcq_guard : (s.onAcq f).guard = s.guard := rfl
@[simp] theorem State.onAcq_map : (s.onAcq f).map = s.map := rfl
@[simp] theorem State.onAcq_engine : (s.onAcq f).engine = s.engine := rfl
@[simp] theorem State.onAcq_lines : (s.onAcq f).lines = s.lines := rfl
@[simp] theorem State.onAcq_link : (s.onAcq f).link = s.link := rfl
@[simp] theorem State.onAcq_due : (s.onAcq f).due = s.due := rfl
@[simp] theorem State.onAcq_freeCount : (s.onAcq f).freeCount = s.freeCount := rfl
@[simp] theorem State.onAcq_pending : (s.onAcq f).pending = s.pending := rfl

end onAcq

section onCal

variable (f : Cal → Cal) (s : State)

@[simp] theorem State.onCal_held : (s.onCal f).held = s.held := rfl
@[simp] theorem State.onCal_acq : (s.onCal f).acq = s.acq := rfl
@[simp] theorem State.onCal_cal : (s.onCal f).cal = f s.cal := rfl
@[simp] theorem State.onCal_pos : (s.onCal f).pos = s.pos := rfl
@[simp] theorem State.onCal_profile : (s.onCal f).profile = s.profile := rfl
@[simp] theorem State.onCal_stroke : (s.onCal f).stroke = s.stroke := rfl
@[simp] theorem State.onCal_guard : (s.onCal f).guard = s.guard := rfl
@[simp] theorem State.onCal_map : (s.onCal f).map = s.map := rfl
@[simp] theorem State.onCal_engine : (s.onCal f).engine = s.engine := rfl
@[simp] theorem State.onCal_lines : (s.onCal f).lines = s.lines := rfl
@[simp] theorem State.onCal_link : (s.onCal f).link = s.link := rfl
@[simp] theorem State.onCal_due : (s.onCal f).due = s.due := rfl
@[simp] theorem State.onCal_freeCount : (s.onCal f).freeCount = s.freeCount := rfl
@[simp] theorem State.onCal_pending : (s.onCal f).pending = s.pending := rfl

end onCal

section onPos

variable (f : Pos → Pos) (s : State)

@[simp] theorem State.onPos_held : (s.onPos f).held = s.held := rfl
@[simp] theorem State.onPos_acq : (s.onPos f).acq = s.acq := rfl
@[simp] theorem State.onPos_cal : (s.onPos f).cal = s.cal := rfl
@[simp] theorem State.onPos_pos : (s.onPos f).pos = f s.pos := rfl
@[simp] theorem State.onPos_profile : (s.onPos f).profile = s.profile := rfl
@[simp] theorem State.onPos_stroke : (s.onPos f).stroke = s.stroke := rfl
@[simp] theorem State.onPos_guard : (s.onPos f).guard = s.guard := rfl
@[simp] theorem State.onPos_map : (s.onPos f).map = s.map := rfl
@[simp] theorem State.onPos_engine : (s.onPos f).engine = s.engine := rfl
@[simp] theorem State.onPos_lines : (s.onPos f).lines = s.lines := rfl
@[simp] theorem State.onPos_link : (s.onPos f).link = s.link := rfl
@[simp] theorem State.onPos_due : (s.onPos f).due = s.due := rfl
@[simp] theorem State.onPos_freeCount : (s.onPos f).freeCount = s.freeCount := rfl
@[simp] theorem State.onPos_pending : (s.onPos f).pending = s.pending := rfl

end onPos

section onProfile

variable (f : Profile → Profile) (s : State)

@[simp] theorem State.onProfile_held : (s.onProfile f).held = s.held := rfl
@[simp] theorem State.onProfile_acq : (s.onProfile f).acq = s.acq := rfl
@[simp] theorem State.onProfile_cal : (s.onProfile f).cal = s.cal := rfl
@[simp] theorem State.onProfile_pos : (s.onProfile f).pos = s.pos := rfl
@[simp] theorem State.onProfile_profile : (s.onProfile f).profile = f s.profile := rfl
@[simp] theorem State.onProfile_stroke : (s.onProfile f).stroke = s.stroke := rfl
@[simp] theorem State.onProfile_guard : (s.onProfile f).guard = s.guard := rfl
@[simp] theorem State.onProfile_map : (s.onProfile f).map = s.map := rfl
@[simp] theorem State.onProfile_engine : (s.onProfile f).engine = s.engine := rfl
@[simp] theorem State.onProfile_lines : (s.onProfile f).lines = s.lines := rfl
@[simp] theorem State.onProfile_link : (s.onProfile f).link = s.link := rfl
@[simp] theorem State.onProfile_due : (s.onProfile f).due = s.due := rfl
@[simp] theorem State.onProfile_freeCount : (s.onProfile f).freeCount = s.freeCount := rfl
@[simp] theorem State.onProfile_pending : (s.onProfile f).pending = s.pending := rfl

end onProfile

section onStroke

variable (f : Stroke → Stroke) (s : State)

@[simp] theorem State.onStroke_held : (s.onStroke f).held = s.held := rfl
@[simp] theorem State.onStroke_acq : (s.onStroke f).acq = s.acq := rfl
@[simp] theorem State.onStroke_cal : (s.onStroke f).cal = s.cal := rfl
@[simp] theorem State.onStroke_pos : (s.onStroke f).pos = s.pos := rfl
@[simp] theorem State.onStroke_profile : (s.onStroke f).profile = s.profile := rfl
@[simp] theorem State.onStroke_stroke : (s.onStroke f).stroke = f s.stroke := rfl
@[simp] theorem State.onStroke_guard : (s.onStroke f).guard = s.guard := rfl
@[simp] theorem State.onStroke_map : (s.onStroke f).map = s.map := rfl
@[simp] theorem State.onStroke_engine : (s.onStroke f).engine = s.engine := rfl
@[simp] theorem State.onStroke_lines : (s.onStroke f).lines = s.lines := rfl
@[simp] theorem State.onStroke_link : (s.onStroke f).link = s.link := rfl
@[simp] theorem State.onStroke_due : (s.onStroke f).due = s.due := rfl
@[simp] theorem State.onStroke_freeCount : (s.onStroke f).freeCount = s.freeCount := rfl
@[simp] theorem State.onStroke_pending : (s.onStroke f).pending = s.pending := rfl

end onStroke

section onGuard

variable (f : Guard → Guard) (s : State)

@[simp] theorem State.onGuard_held : (s.onGuard f).held = s.held := rfl
@[simp] theorem State.onGuard_acq : (s.onGuard f).acq = s.acq := rfl
@[simp] theorem State.onGuard_cal : (s.onGuard f).cal = s.cal := rfl
@[simp] theorem State.onGuard_pos : (s.onGuard f).pos = s.pos := rfl
@[simp] theorem State.onGuard_profile : (s.onGuard f).profile = s.profile := rfl
@[simp] theorem State.onGuard_stroke : (s.onGuard f).stroke = s.stroke := rfl
@[simp] theorem State.onGuard_guard : (s.onGuard f).guard = f s.guard := rfl
@[simp] theorem State.onGuard_map : (s.onGuard f).map = s.map := rfl
@[simp] theorem State.onGuard_engine : (s.onGuard f).engine = s.engine := rfl
@[simp] theorem State.onGuard_lines : (s.onGuard f).lines = s.lines := rfl
@[simp] theorem State.onGuard_link : (s.onGuard f).link = s.link := rfl
@[simp] theorem State.onGuard_due : (s.onGuard f).due = s.due := rfl
@[simp] theorem State.onGuard_freeCount : (s.onGuard f).freeCount = s.freeCount := rfl
@[simp] theorem State.onGuard_pending : (s.onGuard f).pending = s.pending := rfl

end onGuard

section onMap

variable (f : MapUnit → MapUnit) (s : State)

@[simp] theorem State.onMap_held : (s.onMap f).held = s.held := rfl
@[simp] theorem State.onMap_acq : (s.onMap f).acq = s.acq := rfl
@[simp] theorem State.onMap_cal : (s.onMap f).cal = s.cal := rfl
@[simp] theorem State.onMap_pos : (s.onMap f).pos = s.pos := rfl
@[simp] theorem State.onMap_profile : (s.onMap f).profile = s.profile := rfl
@[simp] theorem State.onMap_stroke : (s.onMap f).stroke = s.stroke := rfl
@[simp] theorem State.onMap_guard : (s.onMap f).guard = s.guard := rfl
@[simp] theorem State.onMap_map : (s.onMap f).map = f s.map := rfl
@[simp] theorem State.onMap_engine : (s.onMap f).engine = s.engine := rfl
@[simp] theorem State.onMap_lines : (s.onMap f).lines = s.lines := rfl
@[simp] theorem State.onMap_link : (s.onMap f).link = s.link := rfl
@[simp] theorem State.onMap_due : (s.onMap f).due = s.due := rfl
@[simp] theorem State.onMap_freeCount : (s.onMap f).freeCount = s.freeCount := rfl
@[simp] theorem State.onMap_pending : (s.onMap f).pending = s.pending := rfl

end onMap

section onEngine

variable (f : Engine → Engine) (s : State)

@[simp] theorem State.onEngine_held : (s.onEngine f).held = s.held := rfl
@[simp] theorem State.onEngine_acq : (s.onEngine f).acq = s.acq := rfl
@[simp] theorem State.onEngine_cal : (s.onEngine f).cal = s.cal := rfl
@[simp] theorem State.onEngine_pos : (s.onEngine f).pos = s.pos := rfl
@[simp] theorem State.onEngine_profile : (s.onEngine f).profile = s.profile := rfl
@[simp] theorem State.onEngine_stroke : (s.onEngine f).stroke = s.stroke := rfl
@[simp] theorem State.onEngine_guard : (s.onEngine f).guard = s.guard := rfl
@[simp] theorem State.onEngine_map : (s.onEngine f).map = s.map := rfl
@[simp] theorem State.onEngine_engine : (s.onEngine f).engine = f s.engine := rfl
@[simp] theorem State.onEngine_lines : (s.onEngine f).lines = s.lines := rfl
@[simp] theorem State.onEngine_link : (s.onEngine f).link = s.link := rfl
@[simp] theorem State.onEngine_due : (s.onEngine f).due = s.due := rfl
@[simp] theorem State.onEngine_freeCount : (s.onEngine f).freeCount = s.freeCount := rfl
@[simp] theorem State.onEngine_pending : (s.onEngine f).pending = s.pending := rfl

end onEngine

section onLines

variable (f : Lines → Lines) (s : State)

@[simp] theorem State.onLines_held : (s.onLines f).held = s.held := rfl
@[simp] theorem State.onLines_acq : (s.onLines f).acq = s.acq := rfl
@[simp] theorem State.onLines_cal : (s.onLines f).cal = s.cal := rfl
@[simp] theorem State.onLines_pos : (s.onLines f).pos = s.pos := rfl
@[simp] theorem State.onLines_profile : (s.onLines f).profile = s.profile := rfl
@[simp] theorem State.onLines_stroke : (s.onLines f).stroke = s.stroke := rfl
@[simp] theorem State.onLines_guard : (s.onLines f).guard = s.guard := rfl
@[simp] theorem State.onLines_map : (s.onLines f).map = s.map := rfl
@[simp] theorem State.onLines_engine : (s.onLines f).engine = s.engine := rfl
@[simp] theorem State.onLines_lines : (s.onLines f).lines = f s.lines := rfl
@[simp] theorem State.onLines_link : (s.onLines f).link = s.link := rfl
@[simp] theorem State.onLines_due : (s.onLines f).due = s.due := rfl
@[simp] theorem State.onLines_freeCount : (s.onLines f).freeCount = s.freeCount := rfl
@[simp] theorem State.onLines_pending : (s.onLines f).pending = s.pending := rfl

end onLines

section onLink

variable (f : Link → Link) (s : State)

@[simp] theorem State.onLink_held : (s.onLink f).held = s.held := rfl
@[simp] theorem State.onLink_acq : (s.onLink f).acq = s.acq := rfl
@[simp] theorem State.onLink_cal : (s.onLink f).cal = s.cal := rfl
@[simp] theorem State.onLink_pos : (s.onLink f).pos = s.pos := rfl
@[simp] theorem State.onLink_profile : (s.onLink f).profile = s.profile := rfl
@[simp] theorem State.onLink_stroke : (s.onLink f).stroke = s.stroke := rfl
@[simp] theorem State.onLink_guard : (s.onLink f).guard = s.guard := rfl
@[simp] theorem State.onLink_map : (s.onLink f).map = s.map := rfl
@[simp] theorem State.onLink_engine : (s.onLink f).engine = s.engine := rfl
@[simp] theorem State.onLink_lines : (s.onLink f).lines = s.lines := rfl
@[simp] theorem State.onLink_link : (s.onLink f).link = f s.link := rfl
@[simp] theorem State.onLink_due : (s.onLink f).due = s.due := rfl
@[simp] theorem State.onLink_freeCount : (s.onLink f).freeCount = s.freeCount := rfl
@[simp] theorem State.onLink_pending : (s.onLink f).pending = s.pending := rfl

end onLink

section due

variable (d : List Due) (s : State)

@[simp] theorem State.withDue_held : (s.withDue d).held = s.held := rfl
@[simp] theorem State.withDue_acq : (s.withDue d).acq = s.acq := rfl
@[simp] theorem State.withDue_cal : (s.withDue d).cal = s.cal := rfl
@[simp] theorem State.withDue_pos : (s.withDue d).pos = s.pos := rfl
@[simp] theorem State.withDue_profile : (s.withDue d).profile = s.profile := rfl
@[simp] theorem State.withDue_stroke : (s.withDue d).stroke = s.stroke := rfl
@[simp] theorem State.withDue_guard : (s.withDue d).guard = s.guard := rfl
@[simp] theorem State.withDue_map : (s.withDue d).map = s.map := rfl
@[simp] theorem State.withDue_engine : (s.withDue d).engine = s.engine := rfl
@[simp] theorem State.withDue_lines : (s.withDue d).lines = s.lines := rfl
@[simp] theorem State.withDue_link : (s.withDue d).link = s.link := rfl
@[simp] theorem State.withDue_due : (s.withDue d).due = d := rfl
@[simp] theorem State.withDue_freeCount : (s.withDue d).freeCount = s.freeCount := rfl
@[simp] theorem State.withDue_pending : (s.withDue d).pending = s.pending := rfl

end due

section free

variable (s : State)

@[simp] theorem State.tickFree_held : s.tickFree.held = s.held := rfl
@[simp] theorem State.tickFree_acq : s.tickFree.acq = s.acq := rfl
@[simp] theorem State.tickFree_cal : s.tickFree.cal = s.cal := rfl
@[simp] theorem State.tickFree_pos : s.tickFree.pos = s.pos := rfl
@[simp] theorem State.tickFree_profile : s.tickFree.profile = s.profile := rfl
@[simp] theorem State.tickFree_stroke : s.tickFree.stroke = s.stroke := rfl
@[simp] theorem State.tickFree_guard : s.tickFree.guard = s.guard := rfl
@[simp] theorem State.tickFree_map : s.tickFree.map = s.map := rfl
@[simp] theorem State.tickFree_engine : s.tickFree.engine = s.engine := rfl
@[simp] theorem State.tickFree_lines : s.tickFree.lines = s.lines := rfl
@[simp] theorem State.tickFree_link : s.tickFree.link = s.link := rfl
@[simp] theorem State.tickFree_due : s.tickFree.due = s.due := rfl
@[simp] theorem State.tickFree_freeCount : s.tickFree.freeCount = s.freeCount + 1 := rfl
@[simp] theorem State.tickFree_pending : s.tickFree.pending = s.pending := rfl

end free

end Sys2Proof.Machine
end

