-- ==== Sys2Proof/Laws/Link.lean ====
section
/-! SUPPORT. What the link's shared operations can do, said once: the report queue, the receive
buffer, the transmitter, and the frame of a command around its own effect. -/

namespace Sys2Proof.Machine

/-! ### The report queue -/

/-- A post appends, displaces the oldest minor report, or discards the new one (10 R185). -/
theorem Link.post_cases (r : Report) (l : Link) :
    (l.reports.length < 16 ∧ l.post r = { l with reports := l.reports ++ [r] }) ∨
    (16 ≤ l.reports.length ∧ r.severity.urgent = true ∧ l.reports.any Report.minor = true ∧
      l.post r = { l with reports := l.reports.eraseP Report.minor ++ [r]
                          lost := satSucc 65535 l.lost }) ∨
    (16 ≤ l.reports.length ∧
      (r.severity.urgent && l.reports.any Report.minor) = false ∧
      l.post r = { l with lost := satSucc 65535 l.lost }) := by
  unfold Link.post
  by_cases h : l.reports.length < 16
  · exact .inl ⟨h, if_pos h⟩
  · have h16 : 16 ≤ l.reports.length := Nat.le_of_not_lt h
    by_cases g : (r.severity.urgent && l.reports.any Report.minor) = true
    · refine .inr (.inl ⟨h16, ?_, ?_, ?_⟩)
      · exact (Bool.and_eq_true_iff.mp g).1
      · exact (Bool.and_eq_true_iff.mp g).2
      · simp only [h, g, if_false, if_true]
    · refine .inr (.inr ⟨h16, by simpa using g, ?_⟩)
      simp only [h, g, if_false, Bool.false_eq_true]

/-- A post writes reports and the lost-report counter only. -/
theorem Link.post_frame (r : Report) (l : Link) :
    l.post r = { l with reports := (l.post r).reports, lost := (l.post r).lost } := by
  rcases Link.post_cases r l with ⟨_, h⟩ | ⟨_, _, _, h⟩ | ⟨_, _, h⟩ <;> rw [h]

/-- A saturating counter keeps its limit. -/
theorem satSucc_le (limit n : Nat) : satSucc limit n ≤ limit := by
  unfold satSucc; split <;> omega

/-! ### The transmitter -/

/-- A transmitter in use chooses nothing. -/
theorem transmit_busy {b : Bool} {s : State} (h : s.link.sending.isSome = true) :
    transmit b s = s := by
  unfold transmit
  split
  · rfl
  · simp_all

/-- With empty queues nothing is sent. -/
theorem transmit_empty {b : Bool} {s : State} (hr : s.link.replies = [])
    (hp : s.link.reports = []) : transmit b s = s := by
  unfold transmit
  split
  · rfl
  · simp [hr, hp]

/-- A fed link leaves the transmitter nothing to choose. -/
theorem transmit_fed {b : Bool} {s : State} (h : s.link.fed) : transmit b s = s := by
  cases hs : s.link.sending with
  | some f => exact transmit_busy (by simp [hs])
  | none => exact transmit_empty (h hs).1 (h hs).2

/-- One reply in the queues of a free transmitter is sent. -/
theorem transmit_reply {b : Bool} {s : State} {r : Reply} (hs : s.link.sending = none)
    (hd : s.due = []) (hr : s.link.replies = [r]) (hp : s.link.reports = [])
    (hb : s.link.buffer = .empty) :
    transmit b s = { s with link := { s.link with replies := [], sending := some (.reply r) } } := by
  unfold transmit sendReply
  rw [hs]
  simp [hd, hr, hp, hb, State.onLink, Link.replyDue]

/-- One report in the queues of a free transmitter is sent. -/
theorem transmit_report {b : Bool} {s : State} {r : Report} (hs : s.link.sending = none)
    (hd : s.due = []) (hr : s.link.replies = []) (hp : s.link.reports = [r]) :
    transmit b s = { s with link := { s.link with reports := [], sending := some (.report r) } } := by
  unfold transmit sendReport
  rw [hs]
  simp [hd, hr, hp, State.onLink]

/-! ### The frame of a command around its effect -/

/-- With nothing due there is nothing to settle. -/
theorem settle_quiet {s : State} (h : s.due = []) : settle s = s := by
  simp [settle, settleThrough, takeThrough, h]

/-- A ready part takes a command's own effect at once. -/
theorem live_ready {s : State} (h : s.Ready) (f : State → State) :
    live f s = .next (transmit true (f s)) := by
  simp [live, h.runs, settle_quiet h.quiet]

/-- A due command that is not due changes nothing in a ready part. -/
theorem liveDue_ready {s : State} (h : s.Ready) (p : Due → Bool) : liveDue p s = .next s := by
  simp [liveDue, h.runs, settleThrough, takeThrough, h.quiet]

/-- A held part takes no command. -/
theorem live_held {s : State} (h : s.held = true) (f : State → State) : live f s = .next s := by
  simp [live, h]

/-- A live command always answers a next state. -/
theorem live_next (f : State → State) (s : State) : ∃ t, live f s = .next t := ⟨_, rfl⟩

/-- A report posted in a part whose link is fed is sent or queued. -/
theorem transmit_post {u : State} {r : Report} (hd : Due.toolReset ∉ u.due) (hf : u.link.fed) :
    transmit true (post r u) = u.reported r := by
  cases hs : u.link.sending with
  | some f =>
    rw [transmit_busy (by simp [post, (Link.post_frame r u.link ▸ rfl :
      (Link.post r u.link).sending = u.link.sending), hs])]
    simp [State.reported, Link.reported, hs, post, State.onLink]
  | none =>
    obtain ⟨h1, h2⟩ := hf hs
    have hp : Link.post r u.link = { u.link with reports := [r] } := by
      simp [Link.post, h2, Config.reportPlaces]
    unfold transmit sendReport
    simp [post, hp, hs, hd, h1, State.onLink, State.reported, Link.reported, h2]

/-- Two reports of one command, with the watchdog set between them: the first is sent or queued, then
the second. -/
theorem transmit_post_two {v : State} {l : Link} {w : Option Nat} {r1 r2 : Report}
    (hd : Due.toolReset ∉ v.due) (hf : l.fed)
    (hl : v.link = { l.post r1 with watchdog := w }) :
    transmit true (post r2 v) =
      State.reported r2 { v with link := { l.reported r1 with watchdog := w } } := by
  cases hs : l.sending with
  | some f =>
    have h1 : (l.post r1).sending = some f := by rw [Link.post_frame]; exact hs
    have h2 : v.link = { l.reported r1 with watchdog := w } := by simp [hl, Link.reported, hs]
    have h3 : (post r2 v).link.sending = some f := by
      show (v.link.post r2).sending = _
      rw [Link.post_frame, hl]; exact h1
    rw [transmit_busy (by simp [h3]), ← h2]
    have h4 : v.link.sending = some f := by rw [hl]; exact h1
    simp [State.reported, Link.reported, h4, post, State.onLink]
  | none =>
    obtain ⟨h1, h2⟩ := hf hs
    have hp : l.post r1 = { l with reports := [r1] } := by simp [Link.post, h2]
    have hr : l.reported r1 = { l with sending := some (.report r1) } := by
      simp [Link.reported, hs]
    rw [hp] at hl
    have hq : post r2 v = { v with link := { l with reports := [r1, r2], watchdog := w } } := by
      simp [post, State.onLink, hl, Link.post]
    rw [hq, hr]
    unfold transmit sendReport
    simp [hs, hd, h1, h2, State.onLink, State.reported, Link.reported, Link.post]

/-- The one step that is due is taken by its command. -/
theorem liveDue_owing {s : State} {d : Due} {p : Due → Bool} (hh : s.held = false)
    (hd : s.due = [d]) (hp : p d = true) :
    liveDue p s = .next (transmit true (takeDue d (s.withDue []))) := by
  simp [liveDue, hh, settleThrough, hd, takeThrough, runDue, hp]

/-- The one step that is due is taken when nothing waits. -/
theorem settle_owing {s : State} {d : Due} (hd : s.due = [d]) :
    settle s = transmit true (takeDue d (s.withDue [])) := by
  simp [settle, settleThrough, hd, takeThrough, runDue]

/-- Due steps are taken one after another: the first of a list that is not the wanted one is run, the
transmitter chooses, and the rest follow (10 R184). -/
theorem takeThrough_cons {wanted : Due → Bool} {d : Due} {rest : List Due} {s : State}
    (h : wanted d = false) :
    takeThrough wanted (d :: rest) s =
      takeThrough wanted rest (transmit true (takeDue d (s.withDue s.due.tail))) := by
  simp [takeThrough, runDue, h]

/-! ### A SNAPSHOT at the close of a round -/

/-- Nothing is answered at a close when no SNAPSHOT waits. -/
theorem closeSnapshot_other {s : State} (h : s.link.buffer ≠ .snapshot) : closeSnapshot s = s := by
  have ht : s.snapshotTies = false := by simp [State.snapshotTies, h]
  simp only [closeSnapshot, ht, answerSnapshot]
  cases hb : s.link.buffer <;> simp_all

/-- A SNAPSHOT is answered at the close, or, with a free transmitter and a step due, by a due step at
the end of the list (10 R184); a free choice is used up then and only then. -/
theorem closeSnapshot_cases (s : State) :
    (s.snapshotTies = false ∧ closeSnapshot s = answerSnapshot s) ∨
    (s.snapshotTies = true ∧ (closeSnapshot s = (answerSnapshot s).tickFree ∨
      closeSnapshot s = (s.withDue (s.due ++ [.snapshotReply])).tickFree)) := by
  unfold closeSnapshot
  cases s.snapshotTies
  · exact .inl ⟨rfl, rfl⟩
  · cases Config.reportFirst s.freeCount
    · exact .inr ⟨rfl, .inl rfl⟩
    · exact .inr ⟨rfl, .inr rfl⟩

/-! ### The receive buffer -/

/-- A free place takes the reply of the request in the buffer, and the buffer frees. -/
theorem place_made {s : State} {r : Reply} (h : s.link.replies.length < 4) (hr : r.resets = false) :
    place (.made r) s =
      { s with link := { s.link with replies := s.link.replies ++ [r], buffer := .empty } } := by
  simp [place, Link.replyRoom, h, placeNow, hr, setBuffer, State.onLink, Link.enqueue]

/-- The one reply an answered request puts behind the queue is sent at once by a free transmitter. -/
theorem transmit_answered {u : State} {l : Link} {r : Reply} (hd : u.due = []) (hf : l.fed)
    (hb : l.buffer = .empty) :
    transmit true { u with link := { l with replies := l.replies ++ [r] } } =
      { u with link := l.replied r } := by
  generalize hv : ({ u with link := { l with replies := l.replies ++ [r] } } : State) = v
  have hl : v.link = { l with replies := l.replies ++ [r] } := by rw [← hv]
  cases hs : l.sending with
  | some f =>
    rw [transmit_busy (by simp [hl, hs]), ← hv]
    simp [Link.replied, hs]
  | none =>
    obtain ⟨h1, h2⟩ := hf hs
    rw [transmit_reply (r := r) (by rw [hl]; exact hs) (by rw [← hv]; exact hd)
      (by simp [hl, h1]) (by rw [hl]; exact h2) (by rw [hl]; exact hb), ← hv]
    simp [Link.replied, hs, h1]

/-- A request whose owner answers at once: its owner's action stands and its reply is sent or
queued (10 R182, R184). -/
theorem request_reply {s u : State} {r : Request} {srv : State → State × Answer} {st : Status}
    {d : List Byte} (h : s.Serving) (hk : isRequestKind r.kind = true)
    (hs : srv { s with link := s.link.heard } = (u, .reply st d))
    (hl : u.link = s.link.heard) (hd : u.due = []) :
    request r srv s = .next { u with
      link := s.link.heard.replied
        { kind := r.kind + 0x80#8, status := st, detail := d, resets := false } } := by
  have hbuf : s.link.heard.buffer = .empty := h.buffer
  unfold request
  rw [live_ready h.toReady]
  congr 1
  have e : reloadWatchdog s = { s with link := s.link.heard } := rfl
  have ho : offer r.kind srv s = { u with
      link := { s.link.heard with
        replies := s.link.heard.replies ++
          [{ kind := r.kind + 0x80#8, status := st, detail := d, resets := false }] } } := by
    simp only [offer, e, hbuf, hs, answer]
    rw [place_made (by rw [hl]; exact h.room) rfl]
    rw [hl]
    simp [replyTo, replyKind, hk, ← hbuf]
  rw [ho]
  exact transmit_answered hd h.toReady.fed hbuf

/-- A request whose owner acts on its own block and answers at once: the block is as the owner left
it, and the reply is sent or queued. -/
theorem request_acts {s u : State} {r : Request} {srv : State → State × Answer} {st : Status}
    {d : List Byte} (h : s.Serving) (hk : isRequestKind r.kind = true)
    (hs : srv { s with link := s.link.heard } = ({ u with link := s.link.heard }, .reply st d))
    (hl : u.link = s.link) (hd : u.due = []) :
    request r srv s = .next (u.replied r.kind st d) := by
  have := request_reply (u := { u with link := s.link.heard }) h hk hs rfl hd
  rw [this, State.replied, hl]

/-- A request that its owner answers without acting changes the link alone. -/
theorem request_read {s : State} {r : Request} {srv : State → State × Answer} {st : Status}
    {d : List Byte} (h : s.Serving) (hk : isRequestKind r.kind = true)
    (hs : srv { s with link := s.link.heard } = ({ s with link := s.link.heard }, .reply st d)) :
    request r srv s = .next (s.replied r.kind st d) :=
  request_reply (u := { s with link := s.link.heard }) h hk hs rfl h.toReady.quiet

end Sys2Proof.Machine
end

