-- ==== Sys2Proof/Laws/Engine.lean ====
section
/-! SUPPORT. What the idle tick, the working table, the excitation and the close of a commit can do,
said once. -/

namespace Sys2Proof.Machine

/-! ### The working table (07 R122, R124) -/

/-- A step of the engine forms the records of one more segment, or finds none left. -/
theorem WorkTable.advance_cases (m : MapUnit) (p : Profile) (i : EvalInputs) (w : WorkTable) :
    ((evaluateResults m p i).drop w.records.length = [] ∧ w.advance m p i = w) ∨
    ∃ r rest, (evaluateResults m p i).drop w.records.length = r :: rest ∧
      w.advance m p i =
        { records := w.records ++ r :: rest.takeWhile fun x => x.segment == r.segment
          clusters := (evaluateClusters m i).filter fun k => k.segment == r.segment } := by
  unfold WorkTable.advance
  split
  · next h => exact .inl ⟨h, rfl⟩
  · next r rest h => exact .inr ⟨r, rest, h, rfl⟩

/-- A table that is a first part of the results is completed to the results. -/
theorem WorkTable.finish_prefix {m : MapUnit} {p : Profile} {i : EvalInputs} {w : WorkTable}
    (h : w.records <+: evaluateResults m p i) : w.finish m p i = evaluateResults m p i := by
  obtain ⟨t, ht⟩ := h
  simp [WorkTable.finish, ← ht]

/-- A step of the engine keeps the table a first part of the results. -/
theorem WorkTable.advance_prefix {m : MapUnit} {p : Profile} {i : EvalInputs} {w : WorkTable}
    (h : w.records <+: evaluateResults m p i) :
    (w.advance m p i).records <+: evaluateResults m p i := by
  rcases WorkTable.advance_cases m p i w with ⟨-, e⟩ | ⟨r, rest, hd, e⟩
  · rw [e]; exact h
  · rw [e]
    obtain ⟨t, ht⟩ := h
    have : t = r :: rest := by simpa [← ht] using hd
    rw [← ht, this]
    exact (List.prefix_append_right_inj _).mpr
      (List.cons_prefix_cons.mpr ⟨rfl, List.takeWhile_prefix _⟩)

/-! ### The idle tick -/

/-- Working on writes the working table alone. -/
theorem workOn_eq (s : State) :
    workOn s = { s with
      engine := { s.engine with work := match s.engine.run with
        | none => s.engine.work
        | some i => s.engine.work.advance s.map s.profile i } } := by
  unfold workOn
  cases h : s.engine.run <;> simp [State.onEngine]

/-- The fall of ENC_Z writes its level, and uses up a free choice while the level is high. -/
theorem referenceFalls_eq (s : State) :
    (s.pos.encZ = .low ∧ referenceFalls s = s) ∨
    (s.pos.encZ = .high ∧ ∃ level, referenceFalls s = { s with
      pos := { s.pos with encZ := level }, freeCount := s.freeCount + 1 }) := by
  unfold referenceFalls
  cases h : s.pos.encZ with
  | low => exact .inl ⟨rfl, rfl⟩
  | high =>
    refine .inr ⟨rfl, ?_⟩
    by_cases c : Config.referenceFalls s.freeCount = true
    · exact ⟨.low, by simp [c, State.onPos, State.tickFree]⟩
    · exact ⟨.high, by simp [c, State.tickFree, ← h]⟩

/-- What the idle tick writes: the level of ENC_Z, the counter of free choices, the working table. -/
theorem tick_eq (s : State) : ∃ level n, tick s = { s with
    pos := { s.pos with encZ := level }, freeCount := n
    engine := { s.engine with work := match s.engine.run with
      | none => s.engine.work
      | some i => s.engine.work.advance s.map s.profile i } } := by
  unfold tick
  rcases referenceFalls_eq s with ⟨h, e⟩ | ⟨h, level, e⟩
  · exact ⟨.low, s.freeCount, by rw [e, workOn_eq, ← h]⟩
  · exact ⟨level, s.freeCount + 1, by rw [e, workOn_eq]⟩

/-! ### The bridges (01 R1) -/

/-- The excitation follows the enabled field of the record. -/
theorem excites_eq {s : State} {n : Nat} {g : Segment} (h : s.acq.segs[n]? = some g) :
    s.excites n = g.enabled := by
  simp [State.excites, Acq.seg, h]

/-- A map that is installed leaves the engine running with nothing formed, and its results invalid
(06 R111, 08 R155). -/
@[simp] theorem installMap_engine (list : List PinRecord) (s : State) :
    (installMap list s).engine =
      { s.engine with work := WorkTable.empty, results := [], summary := none, valid := false } := rfl

/-- The close of a commit leaves none in progress, and touches the map unit and the engine alone
(06 R109 to R111). -/
theorem closeCommit_eq (c : Commit) (s : State) :
    (closeCommit c s).map.commit = none ∧
      closeCommit c s = { s with
        map := (closeCommit c s).map, engine := (closeCommit c s).engine } := by
  unfold closeCommit
  cases c.refusal <;> exact ⟨rfl, rfl⟩

/-- With no commit in progress an ARM finds the state as it is. -/
@[simp] theorem commitClosed_none {s : State} (h : s.map.commit = none) : commitClosed s = s := by
  unfold commitClosed
  rw [h]

/-- What an ARM does: it is refused with nothing changed, or enters READY with no commit in progress
(04 R64, 02 R26, 06 R113). -/
theorem serveArm_cases (s : State) :
    (∃ answer, serveArm s = (s, answer)) ∨
      (s.stroke.state.idle = true ∧ armRefusal s = none ∧ armRefusal (commitClosed s) = none ∧
        serveArm s = (enterState .ready (commitClosed s), .ok)) := by
  unfold serveArm
  cases s.stroke.state.idle
  · exact .inl ⟨_, rfl⟩
  · cases h : (armRefusal s).or (armRefusal (commitClosed s)) with
    | some p => exact .inl ⟨_, rfl⟩
    | none =>
      obtain ⟨h1, h2⟩ := Option.or_eq_none_iff.mp h
      exact .inr ⟨rfl, h1, h2, rfl⟩

end Sys2Proof.Machine
end

