-- ==== Sys2Proof/Laws/Stroke.lean ====
section
/-! SUPPORT. What the stroke's shared operations can do, said once: home under each update, the ends
of capture, halt causes and lockouts. -/

namespace Sys2Proof.Machine

/-! ### Home, GUARD and MAINT read the lines, the position and the parameters -/

/-- Home depends on the lines, the position unit and the home zone alone. -/
theorem home_congr {s t : State} (hl : t.lines.lines = s.lines.lines) (hp : t.pos = s.pos)
    (hz : t.stroke.params = s.stroke.params) : t.home = s.home := by
  simp [State.home, Lines.holding, hl, hp, hz]

/-- GUARD depends on the lines alone. -/
theorem guardOk_congr {s t : State} (hl : t.lines.lines = s.lines.lines) :
    t.guardOk = s.guardOk := by
  simp [State.guardOk, Lines.holding, hl]

/-- An event of home that moves it nowhere does nothing. -/
theorem homeChange_same {b : Bool} {s : State} (h : s.home = b) : homeChange b s = s := by
  cases b <;> simp [homeChange, h]

/-! ### Posting leaves every block but the link -/

@[simp] theorem post_held (r : Report) (s : State) : (post r s).held = s.held := rfl
@[simp] theorem post_acq (r : Report) (s : State) : (post r s).acq = s.acq := rfl
@[simp] theorem post_cal (r : Report) (s : State) : (post r s).cal = s.cal := rfl
@[simp] theorem post_pos (r : Report) (s : State) : (post r s).pos = s.pos := rfl
@[simp] theorem post_profile (r : Report) (s : State) : (post r s).profile = s.profile := rfl
@[simp] theorem post_stroke (r : Report) (s : State) : (post r s).stroke = s.stroke := rfl
@[simp] theorem post_guard (r : Report) (s : State) : (post r s).guard = s.guard := rfl
@[simp] theorem post_map (r : Report) (s : State) : (post r s).map = s.map := rfl
@[simp] theorem post_engine (r : Report) (s : State) : (post r s).engine = s.engine := rfl
@[simp] theorem post_lines (r : Report) (s : State) : (post r s).lines = s.lines := rfl
@[simp] theorem post_due (r : Report) (s : State) : (post r s).due = s.due := rfl
@[simp] theorem post_pending (r : Report) (s : State) : (post r s).pending = s.pending := rfl

/-- Home after a post. -/
@[simp] theorem post_home (r : Report) (s : State) : (post r s).home = s.home := rfl

/-! ### Capture -/

/-- Closing an open capture closes the profile and stops the quiet timer; a closed one stays as it
is. -/
theorem closeCapture_eq (s : State) :
    closeCapture s =
      { s with
        stroke := { s.stroke with
          captureOpen := false
          quiet := if s.stroke.captureOpen then .stopped else s.stroke.quiet }
        profile := { s.profile with
          condition := if s.stroke.captureOpen then .closed else s.profile.condition } } := by
  unfold closeCapture
  cases h : s.stroke.captureOpen with
  | true => rfl
  | false =>
    simp only [Bool.false_eq_true, if_false]
    rw [← h]

/-- A post and the close of capture touch different blocks. -/
theorem closeCapture_post (r : Report) (s : State) :
    closeCapture (post r s) = post r (closeCapture s) := by
  rw [closeCapture_eq, closeCapture_eq]; rfl

/-! ### Halt causes -/

/-- The entry into HALTED away from home closes capture only when the quiet timer has expired. -/
theorem haltedEntry_away {s : State} (h : s.home = false) :
    haltedEntry s = { s with
      stroke := { s.stroke with
        captureOpen := s.stroke.captureOpen && !s.closesAtHalt
        quiet := if s.closesAtHalt then .stopped else s.stroke.quiet }
      profile := { s.profile with
        condition := if s.closesAtHalt then .closed else s.profile.condition } } := by
  have key : (if s.stroke.quiet == .expired then closeCapture s else s) = { s with
      stroke := { s.stroke with
        captureOpen := s.stroke.captureOpen && !s.closesAtHalt
        quiet := if s.closesAtHalt then .stopped else s.stroke.quiet }
      profile := { s.profile with
        condition := if s.closesAtHalt then .closed else s.profile.condition } } := by
    unfold State.closesAtHalt
    by_cases hq : (s.stroke.quiet == .expired) = true
    · rw [if_pos hq, closeCapture_eq]
      cases hc : s.stroke.captureOpen <;> simp [hq]
    · rw [if_neg hq]
      simp [Bool.not_eq_true _ ▸ hq]
  unfold haltedEntry
  rw [key]
  have : State.home { s with
      stroke := { s.stroke with
        captureOpen := s.stroke.captureOpen && !s.closesAtHalt
        quiet := if s.closesAtHalt then .stopped else s.stroke.quiet }
      profile := { s.profile with
        condition := if s.closesAtHalt then .closed else s.profile.condition } } = false :=
    (home_congr rfl rfl rfl).trans h
  simp only [this, Bool.false_eq_true, if_false]

/-- The report of an entry into HALTED (04 R79). -/
def haltReport (c : HaltCause) (s : State) : Report :=
  { kind := 0x40#8, severity := .stroke
    body := [5#8] ++ u8 c.code ++ bytes2 s.stroke.number ++ u16 (s.pos.lastStation.getD 0xFFFF) }

/-- The report of a station, or none, as one field. -/
theorem stationField_eq (o : Option Nat) : stationField o = u16 (o.getD 0xFFFF) := by
  cases o <;> rfl

/-- Entering HALTED away from home: one report, the watchdog stopped, capture closed when the quiet
timer has expired. -/
theorem enterHalted_away {c : HaltCause} {s : State} (h : s.home = false) :
    enterHalted c s = post (haltReport c s) { s with
      stroke := { s.stroke with
        state := .halted
        captureOpen := s.stroke.captureOpen && !s.closesAtHalt
        quiet := if s.closesAtHalt then .stopped else s.stroke.quiet }
      profile := { s.profile with
        condition := if s.closesAtHalt then .closed else s.profile.condition }
      link := { s.link with watchdog := none } } := by
  unfold enterHalted
  rw [haltedEntry_away (by rw [← h]; rfl)]
  have e : strokeEvent Severity.stroke StrokeState.halted c.code s.stroke.number
      s.pos.lastStation = haltReport c s := by
    simp [strokeEvent, haltReport, stationField_eq, StrokeState.code, u8]
  simp [postStroke, e, post, State.onLink, stopWatchdog, enterState, State.onStroke,
    State.closesAtHalt]

/-- A halt cause taken in APPROACH or CAPTURE away from home (04 R72). -/
theorem halt_descending {c : HaltCause} {s : State} (hs : s.stroke.state.descending = true)
    (h : s.home = false) :
    halt c s = post (haltReport c s) { s with
      stroke := { s.stroke with
        state := .halted, outcome := .halt c
        captureOpen := s.stroke.captureOpen && !s.closesAtHalt
        quiet := if s.closesAtHalt then .stopped else s.stroke.quiet }
      profile := { s.profile with
        condition := if s.closesAtHalt then .closed else s.profile.condition }
      guard := { s.guard with
        reasons := { s.guard.reasons with stroke := true }
        readback := if s.guard.reasons.isEmpty = true ∧ s.guard.sensed = .high then .running
          else s.guard.readback
        counting := s.guard.counting || s.guard.reasons.isEmpty }
      link := { s.link with watchdog := none } } := by
  have hc : s.stroke.state.countsStops = true := by
    cases hk : s.stroke.state <;> simp_all [StrokeState.descending, StrokeState.countsStops]
  have e : halt c s = enterHalted c (addReason .stroke
      (s.onStroke fun k => { k with outcome := .halt c })) := by
    cases hk : s.stroke.state <;> simp_all [StrokeState.descending, halt]
  rw [e, enterHalted_away (by rw [← h]; rfl)]
  simp [addReason, State.onGuard, State.onStroke, haltReport, StopSet.add, hc,
    State.closesAtHalt]

/-- A halt cause taken in HOLD away from home (04 R73). -/
theorem halt_hold {c : HaltCause} {s : State} (hs : s.stroke.state = .hold)
    (h : s.home = false) :
    halt c s = post (haltReport c s) { s with
      stroke := { s.stroke.withSecondary c with
        state := .halted, dwell := none
        captureOpen := s.stroke.captureOpen && !s.closesAtHalt
        quiet := if s.closesAtHalt then .stopped else s.stroke.quiet }
      profile := { s.profile with
        condition := if s.closesAtHalt then .closed else s.profile.condition }
      link := { s.link with watchdog := none } } := by
  have e : halt c s = enterHalted c (s.onStroke fun k =>
      { recordSecondary c k with dwell := none }) := by
    simp [halt, hs]
  have r : ∀ k : Stroke, recordSecondary c k = k.withSecondary c := by
    intro k
    cases hk : k.secondary <;> simp [recordSecondary, Stroke.withSecondary, hk, satSucc]
  have hw : (s.stroke.withSecondary c).captureOpen = s.stroke.captureOpen ∧
      (s.stroke.withSecondary c).quiet = s.stroke.quiet ∧
      (s.stroke.withSecondary c).number = s.stroke.number ∧
      (s.stroke.withSecondary c).params = s.stroke.params := by
    unfold Stroke.withSecondary; split <;> simp
  rw [e]
  have hh : (s.onStroke fun k => { recordSecondary c k with dwell := none }).home = false := by
    rw [← h]; exact home_congr rfl rfl (by simp [r, hw])
  rw [enterHalted_away hh]
  simp [State.onStroke, haltReport, State.closesAtHalt, r, hw]

/-- A halt cause taken in HALTED or RETRACT (04 R74). -/
theorem halt_returning {c : HaltCause} {s : State} (hs : s.stroke.state.returning = true) :
    halt c s = s.secondaryBy c := by
  cases hk : s.stroke.state <;> simp_all [StrokeState.returning, halt, State.onStroke,
    State.secondaryBy]
  all_goals
    cases h2 : s.stroke.secondary <;> simp [recordSecondary, Stroke.withSecondary, h2, satSucc]

/-- A halt cause taken in DISARMED, READY, EVALUATE or COMPLETE is not recorded (04 R74). -/
theorem halt_outside {c : HaltCause} {s : State} (hs : s.stroke.state.inStroke = false) :
    halt c s = s := by
  cases hk : s.stroke.state <;> simp_all [StrokeState.inStroke, halt]

/-- A halt cause taken in a descent, with its report sent or queued. -/
theorem transmit_haltedBy {c : HaltCause} {s : State} (hs : s.stroke.state.descending = true)
    (h : s.home = false) (hd : Due.toolReset ∉ s.due) (hf : s.link.fed) :
    transmit true (halt c s) = s.haltedBy c := by
  rw [halt_descending hs h]
  exact (transmit_post (by exact hd) (by exact hf)).trans rfl

/-- A halt cause taken in HOLD, with its report sent or queued. -/
theorem transmit_heldBy {c : HaltCause} {s : State} (hs : s.stroke.state = .hold)
    (h : s.home = false) (hd : Due.toolReset ∉ s.due) (hf : s.link.fed) :
    transmit true (halt c s) = s.heldBy c := by
  rw [halt_hold hs h]
  exact (transmit_post (by exact hd) (by exact hf)).trans rfl

end Sys2Proof.Machine
end

