-- ==== Sys2Proof/Laws/Ram.lean ====
section
/-! SUPPORT. What the shared operations around the ram can do, said once: the stop-reason set,
lockouts, home, counts, station records, the start, the CAPTURE entry and the end of a stroke. -/

namespace Sys2Proof.Machine

/-! ### The stop-reason set (05 R83, R85, R92) -/

/-- Adding a reason writes the set, and over an empty set the readback timer and the overtravel
count's begin. -/
theorem addReason_eq (r : StopReason) (s : State) :
    addReason r s = { s with
      guard := { s.guard with
        reasons := s.guard.reasons.add r
        readback := if s.guard.reasons.isEmpty = true ∧ s.guard.sensed = .high then .running
          else s.guard.readback
        counting :=
          s.guard.counting || (s.guard.reasons.isEmpty && s.stroke.state.countsStops) } } := by
  simp [addReason, State.onGuard]

/-- Removing a reason writes the set, and stops the readback timer when the set is left empty. -/
theorem removeReason_eq (r : StopReason) (s : State) :
    removeReason r s = { s with
      guard := { s.guard with
        reasons := s.guard.reasons.remove r
        readback := if (s.guard.reasons.remove r).isEmpty = true then .stopped
          else s.guard.readback } } := rfl

/-! ### Lockouts (05 R95 to R97) -/

/-- A cause over a latched lockout is a repeat, and nothing else. -/
theorem lockoutCause_latched {c : LockoutCause} {n : Option Nat} {s : State}
    (h : s.guard.lockout.latched = true) : lockoutCause c n s = s.repeated := by
  simp [lockoutCause, h, State.onGuard, State.repeated, satSucc]

/-- A cause over a cleared lockout writes the record and the reason, and reports it; READY is
disarmed in between. -/
theorem lockoutCause_cleared {c : LockoutCause} {n : Option Nat} {s : State}
    (h : s.guard.lockout.latched = false) :
    lockoutCause c n s = post (lockoutReport (s.newLockout c n))
      (lockoutInReady c (addReason .lockout
        { s with guard := { s.guard with lockout := s.newLockout c n } })) := by
  have e : newLockout c n s = s.newLockout c n := by
    by_cases hc : s.stroke.captureOpen = true <;> by_cases hz : s.pos.high = 0 <;>
      simp [newLockout, State.newLockout, Pos.lastStation, hc, hz]
  simp [lockoutCause, h, e, State.onGuard]

/-- Outside READY a lockout disarms nothing. -/
theorem lockoutInReady_other {c : LockoutCause} {s : State} (h : s.stroke.state ≠ .ready) :
    lockoutInReady c s = s := by
  simp [lockoutInReady, h]

/-! ### Home and GUARD (04 R57, 05 R94) -/

/-- An event of home abandons and starts, releases and ends, or does nothing. -/
theorem homeChange_cases (b : Bool) (s : State) :
    (b = true ∧ s.home = false ∧ homeChange b s = homeLost s) ∨
    (b = false ∧ s.home = true ∧ homeChange b s = homeReached s) ∨
    (b = s.home ∧ homeChange b s = s) := by
  cases b <;> cases h : s.home <;> simp [homeChange, h]

/-- An event of GUARD halts a guarded stroke that it opens on, or does nothing. -/
theorem guardChange_cases (b : Bool) (s : State) :
    (b = true ∧ s.guardOk = false ∧ s.stroke.state.guarded = true ∧
      guardChange b s = halt .guardOpen s) ∨
    (¬(b = true ∧ s.guardOk = false ∧ s.stroke.state.guarded = true) ∧
      guardChange b s = s) := by
  cases b <;> cases h : s.guardOk <;> cases g : s.stroke.state.guarded <;>
    simp [guardChange, h, g]

/-- With no operation running there is none to abandon. -/
theorem abandonCal_idle {s : State} (h : s.cal.run = none) : abandonCal s = s := by
  simp [abandonCal, h]

/-! ### A count (03 R41) -/

@[simp] theorem counted_held (ph : Phase) (s : State) : (s.counted ph).held = s.held := rfl
@[simp] theorem counted_acq (ph : Phase) (s : State) : (s.counted ph).acq = s.acq := rfl
@[simp] theorem counted_cal (ph : Phase) (s : State) : (s.counted ph).cal = s.cal := rfl
@[simp] theorem counted_profile (ph : Phase) (s : State) :
    (s.counted ph).profile = s.profile := rfl
@[simp] theorem counted_stroke (ph : Phase) (s : State) : (s.counted ph).stroke = s.stroke := rfl
@[simp] theorem counted_guard (ph : Phase) (s : State) : (s.counted ph).guard = s.guard := rfl
@[simp] theorem counted_map (ph : Phase) (s : State) : (s.counted ph).map = s.map := rfl
@[simp] theorem counted_engine (ph : Phase) (s : State) : (s.counted ph).engine = s.engine := rfl
@[simp] theorem counted_lines (ph : Phase) (s : State) : (s.counted ph).lines = s.lines := rfl
@[simp] theorem counted_link (ph : Phase) (s : State) : (s.counted ph).link = s.link := rfl
@[simp] theorem counted_due (ph : Phase) (s : State) : (s.counted ph).due = s.due := rfl
@[simp] theorem counted_freeCount (ph : Phase) (s : State) :
    (s.counted ph).freeCount = s.freeCount := rfl
@[simp] theorem counted_pending (ph : Phase) (s : State) :
    (s.counted ph).pending = s.pending := rfl
@[simp] theorem counted_high (ph : Phase) (s : State) :
    (s.counted ph).pos.high = s.pos.high := by cases ph <;> rfl
@[simp] theorem counted_copies (ph : Phase) (s : State) :
    (s.counted ph).pos.copies = s.pos.copies := by cases ph <;> rfl
@[simp] theorem counted_referenced (ph : Phase) (s : State) :
    (s.counted ph).pos.referenced = s.pos.referenced := by cases ph <;> rfl
@[simp] theorem counted_roundSinceLatch (ph : Phase) (s : State) :
    (s.counted ph).pos.roundSinceLatch = s.pos.roundSinceLatch := by cases ph <;> rfl
@[simp] theorem counted_stale (ph : Phase) (s : State) :
    (s.counted ph).pos.stale = s.pos.stale := by cases ph <;> rfl
@[simp] theorem counted_lastStation (ph : Phase) (s : State) :
    (s.counted ph).pos.lastStation = s.pos.lastStation := by simp [Pos.lastStation]
@[simp] theorem counted_homeAssigned (ph : Phase) (s : State) :
    (s.counted ph).homeAssigned = s.homeAssigned := rfl
@[simp] theorem counted_guardOk (ph : Phase) (s : State) :
    (s.counted ph).guardOk = s.guardOk := rfl

/-- The position unit after a legal transition within the limits. -/
theorem counted_eq (ph : Phase) (s : State) :
    (s.onPos fun p => { p.flip ph with counter := p.counted ph }) = s.counted ph := by
  cases ph <;> simp [State.counted, State.onPos, Pos.flip, Pos.counted]

/-- ENCODER_COUNT of a ready part, within the limits of the counter: the count, then what it does
in the part, then the transmitter. -/
theorem encoderCount_ready {ph : Phase} {s : State} (h : s.Ready)
    (hb : s.pos.beyond ph = false) :
    execEncoderCount ph s =
      .next (transmit true
        (countTaken s.home (s.stroke.state == .approach) (s.counted ph))) := by
  unfold execEncoderCount
  rw [live_ready h]
  simp [encoderCount, hb, counted_eq]

/-! ### Stations (03 R48 to R51) -/

/-- With capture closed no station is latched. -/
theorem latchTest_closed {s : State} (h : s.stroke.captureOpen = false) : latchTest s = s := by
  unfold latchTest
  split
  · rfl
  · simp [h]

/-- The record of a latch is the one the claims speak of. -/
theorem stationRecord_eq (s : State) : stationRecord s = s.stationNow := by
  have hf : Segment.latched = recordedSample := rfl
  unfold stationRecord State.stationNow Acq.publishedSet
  rw [hf]
  cases s.acq.published <;> cases s.pos.roundSinceLatch <;> by_cases hz : s.pos.high = 0 <;>
    simp [hz]

/-- A published set in which every disabled segment reads nothing is recorded as it stands. -/
theorem recordedSample_published (segs : List Segment) (xs : List Sample)
    (hl : xs.length = segs.length)
    (hd : ∀ (n : Nat) (g : Segment) (x : Sample), segs[n]? = some g → xs[n]? = some x →
      g.enabled = false → x = { raw := none, force := 0, sat := false, settling := false }) :
    List.zipWith recordedSample segs xs = xs := by
  induction segs generalizing xs with
  | nil => cases xs with
    | nil => rfl
    | cons x xs => simp at hl
  | cons g segs ih => cases xs with
    | nil => rfl
    | cons x xs =>
      have h0 : recordedSample g x = x := by
        unfold recordedSample
        cases hg : g.enabled
        · exact (hd 0 g x rfl rfl hg).symm
        · rfl
      rw [List.zipWith_cons_cons, h0, ih xs (by simpa using hl)
        fun n g' x' h1 h2 => hd (n + 1) g' x' (by simpa using h1) (by simpa using h2)]

/-- A seating check of the model is the condition of the rule (04 R69). -/
theorem seated_iff (s : State) (r : Station) :
    seated s.stroke.params s.profile.records r = true ↔ s.seatingMet r := by
  have hf : forceSeated s.stroke.params s.profile.records r = true ↔
      s.stroke.params.span ≤ r.index ∧ s.stroke.params.earliest ≤ r.index ∧
        (s.stroke.params.floor : Int) ≤ r.total ∧
        ∃ b, s.profile.records[r.index - s.stroke.params.span]? = some b ∧
          (s.stroke.params.rise : Int) ≤ r.total - b.total := by
    unfold forceSeated
    cases h : s.profile.records[r.index - s.stroke.params.span]? with
    | none => simp
    | some b => simp; omega
  unfold seated State.seatingMet
  cases hm : s.stroke.params.mode <;> simp [hf, hm]

/-! ### The start, the CAPTURE entry and the end of a stroke -/

/-- With the line high, GUARD OK and the position known, a start gives no halt cause. -/
theorem giveApproachCauses_none {s : State} (h1 : s.guard.sensed = .high)
    (h2 : s.guardOk = true) (h3 : s.homeAssigned = true ∨ s.pos.referenced = true) :
    giveApproachCauses s = s := by
  have e3 : (!s.pos.referenced && !s.homeAssigned) = false := by
    rcases h3 with h3 | h3 <;> simp [h3]
  simp [giveApproachCauses, h1, h2, e3, listIf, inFreeOrder, needsOrder, tickIfOrdered]

/-- The CAPTURE entry: one report, then the profile emptied, capture open, and the copies taken. -/
theorem captureEntry_eq (s : State) :
    captureEntry s = post (strokeEvent .info .capture 0 s.stroke.number s.pos.lastStation)
      { s with
        stroke := { s.stroke with
          state := .capture, captureOpen := true, quiet := .running, captured := true }
        pos := { s.pos with high := 0, copies := some s.stroke.params.copies }
        profile := { records := [], condition := .capturing, number := s.stroke.number } } := by
  simp [captureEntry, postStroke, State.onProfile, State.onStroke, State.onPos,
    StrokeOutcome.code, post, State.onLink, Params.copies]

/-- The end of a stroke: one report over the state with STROKE removed, capture closed, the engine
started and EVALUATE entered. -/
theorem endStroke_eq (s : State) :
    let t := removeReason .stroke s
    endStroke s =
      post (strokeEvent .info .evaluate s.stroke.outcome.code s.stroke.number s.pos.lastStation)
        { t with
          stroke := { s.stroke with
            state := .evaluate, captureOpen := false
            quiet := if s.stroke.captureOpen then .stopped else s.stroke.quiet }
          profile := { s.profile with
            condition := if s.stroke.captureOpen then .closed else s.profile.condition }
          engine := { s.engine with run := some (evalInputs s), work := WorkTable.empty } } := by
  intro t
  simp only [endStroke, postStroke, closeCapture_eq]
  rfl

end Sys2Proof.Machine
end

