-- ==== Sys2Proof/Laws/Serve.lean ====
section
/-! SUPPORT. No owner of a request reads or writes the reply queue: its action and its answer are the
same whatever replies are queued. -/

namespace Sys2Proof.Machine

/-- The part with other replies queued. -/
def State.withReplies (q : List Reply) (s : State) : State := s.onLink fun l => { l with replies := q }

variable (q : List Reply)

@[simp] theorem withReplies_acq (s : State) : (s.withReplies q).acq = s.acq := rfl
@[simp] theorem withReplies_cal (s : State) : (s.withReplies q).cal = s.cal := rfl
@[simp] theorem withReplies_pos (s : State) : (s.withReplies q).pos = s.pos := rfl
@[simp] theorem withReplies_profile (s : State) : (s.withReplies q).profile = s.profile := rfl
@[simp] theorem withReplies_stroke (s : State) : (s.withReplies q).stroke = s.stroke := rfl
@[simp] theorem withReplies_guard (s : State) : (s.withReplies q).guard = s.guard := rfl
@[simp] theorem withReplies_map (s : State) : (s.withReplies q).map = s.map := rfl
@[simp] theorem withReplies_engine (s : State) : (s.withReplies q).engine = s.engine := rfl
@[simp] theorem withReplies_lines (s : State) : (s.withReplies q).lines = s.lines := rfl
@[simp] theorem withReplies_home (s : State) : (s.withReplies q).home = s.home := rfl
@[simp] theorem withReplies_guardOk (s : State) : (s.withReplies q).guardOk = s.guardOk := rfl
@[simp] theorem withReplies_maintOn (s : State) : (s.withReplies q).maintOn = s.maintOn := rfl

/-! ### The shared operations -/

theorem post_withReplies (r : Report) (s : State) :
    post r (s.withReplies q) = (post r s).withReplies q := by
  have h : ∀ l : Link, Link.post r { l with replies := q } = { l.post r with replies := q } := by
    intro l
    unfold Link.post
    by_cases h1 : l.reports.length < Config.reportPlaces
    · simp only [if_pos h1]
    · by_cases h2 : (r.severity.urgent && l.reports.any Report.minor) = true
      · simp only [if_neg h1, if_pos h2]
      · simp only [if_neg h1, if_neg h2]
  simp [post, State.withReplies, State.onLink, h]

theorem closeCapture_withReplies (s : State) :
    closeCapture (s.withReplies q) = (closeCapture s).withReplies q := by
  rw [closeCapture_eq, closeCapture_eq]; rfl

theorem endStroke_withReplies (s : State) :
    endStroke (s.withReplies q) = (endStroke s).withReplies q := by
  rw [endStroke_eq, endStroke_eq, ← post_withReplies]; rfl

theorem haltedEntry_withReplies (s : State) :
    haltedEntry (s.withReplies q) = (haltedEntry s).withReplies q := by
  unfold haltedEntry
  have h : (if (s.withReplies q).stroke.quiet == .expired then closeCapture (s.withReplies q)
      else s.withReplies q) =
      (if s.stroke.quiet == .expired then closeCapture s else s).withReplies q := by
    show (if s.stroke.quiet == .expired then _ else _) = _
    split
    · exact closeCapture_withReplies q s
    · rfl
  simp only [h]
  generalize (if s.stroke.quiet == .expired then closeCapture s else s) = u
  show (if u.home then _ else _) = _
  split
  · exact endStroke_withReplies q u
  · rfl

theorem enterHalted_withReplies (c : HaltCause) (s : State) :
    enterHalted c (s.withReplies q) = (enterHalted c s).withReplies q := by
  unfold enterHalted postStroke
  rw [← haltedEntry_withReplies, ← post_withReplies]
  rfl

theorem halt_withReplies (c : HaltCause) (s : State) :
    halt c (s.withReplies q) = (halt c s).withReplies q := by
  have a := enterHalted_withReplies q c
    (addReason .stroke (s.onStroke fun k => { k with outcome := .halt c }))
  have b := enterHalted_withReplies q c
    (s.onStroke fun k => { recordSecondary c k with dwell := none })
  unfold halt
  simp only [withReplies_stroke]
  cases s.stroke.state <;> first | exact a | exact b | rfl

theorem disarm_withReplies (s : State) :
    disarm (s.withReplies q) = (disarm s).withReplies q := by
  unfold disarm
  rfl

theorem abandonCal_withReplies (s : State) :
    abandonCal (s.withReplies q) = (abandonCal s).withReplies q := by
  unfold abandonCal
  simp only [withReplies_cal]
  cases s.cal.run with
  | none => rfl
  | some r => cases h : r.job <;> simp only [h] <;> exact post_withReplies q _ (clearCal s)

theorem giveApproachCauses_withReplies (s : State) :
    giveApproachCauses (s.withReplies q) = (giveApproachCauses s).withReplies q := by
  have fold : ∀ (cs : List HaltCause) (u : State),
      cs.foldl (fun t c => halt c t) (u.withReplies q) =
        (cs.foldl (fun t c => halt c t) u).withReplies q := by
    intro cs
    induction cs with
    | nil => intro u; rfl
    | cons c cs ih =>
      intro u
      rw [List.foldl_cons, List.foldl_cons, halt_withReplies, ih]
  have tick : ∀ c : Bool, (if c = true then (s.withReplies q).tickFree else s.withReplies q) =
      (if c = true then s.tickFree else s).withReplies q := by
    intro c; cases c <;> rfl
  unfold giveApproachCauses tickIfOrdered
  rw [← fold, ← tick]
  rfl

theorem strokeStart_withReplies (s : State) :
    strokeStart (s.withReplies q) = (strokeStart s).withReplies q := by
  unfold strokeStart postStroke
  rw [← giveApproachCauses_withReplies, ← post_withReplies]
  have h : watchdogApproach { s.link with replies := q } =
      { watchdogApproach s.link with replies := q } := by
    unfold watchdogApproach; by_cases e : s.link.interval = 0 <;> simp [e]
  simp only [State.onLink, State.withReplies, State.onGuard, State.onLines, State.onStroke,
    invalidateResults, State.onEngine, h]

theorem homeChange_withReplies (b : Bool) (s : State) :
    homeChange b (s.withReplies q) = (homeChange b s).withReplies q := by
  have lost : homeLost (s.withReplies q) = (homeLost s).withReplies q := by
    unfold homeLost
    rw [abandonCal_withReplies]
    generalize abandonCal s = u
    by_cases h : u.stroke.state = .ready
    · simp only [withReplies_stroke, if_pos h, strokeStart_withReplies]
    · simp [h]
  have reached : homeReached (s.withReplies q) = (homeReached s).withReplies q := by
    have h : removeReason .resetHold (s.withReplies q) =
        (removeReason .resetHold s).withReplies q := rfl
    unfold homeReached
    rw [h]
    generalize removeReason .resetHold s = u
    cases h : u.stroke.state <;>
      simp [h, StrokeState.returning, endStroke_withReplies]
  unfold homeChange
  by_cases h : (b && !s.home) = true
  · simp only [withReplies_home, if_pos h, lost]
  · by_cases g : (!b && s.home) = true
    · simp only [withReplies_home, if_neg h, if_pos g, reached]
    · rw [withReplies_home, if_neg h, if_neg g, if_neg h, if_neg g]

theorem guardChange_withReplies (b : Bool) (s : State) :
    guardChange b (s.withReplies q) = (guardChange b s).withReplies q := by
  unfold guardChange
  show (if b && !s.guardOk && s.stroke.state.guarded then _ else _) = _
  split
  · exact halt_withReplies q _ s
  · rfl

theorem acceptSegment_withReplies (n : Nat) (old new : Segment) (s : State) :
    acceptSegment n old new (s.withReplies q) = (acceptSegment n old new s).withReplies q := by
  unfold acceptSegment
  by_cases h : (!old.enabled && new.enabled) = true
  · simp only [if_pos h]; rfl
  · simp only [if_neg h]; rfl

theorem acceptClass_withReplies (n : Nat) (c : WindowClass) (s : State) :
    acceptClass n c (s.withReplies q) = (acceptClass n c s).withReplies q := by
  unfold acceptClass
  by_cases h : s.map.classAt n = some c
  · rw [withReplies_map, if_pos h, if_pos h]
  · rw [withReplies_map, if_neg h, if_neg h]; rfl

theorem commitClosed_withReplies (s : State) :
    commitClosed (s.withReplies q) = (commitClosed s).withReplies q := by
  unfold commitClosed closeCommit
  rw [withReplies_map]
  cases s.map.commit with
  | none => rfl
  | some c => cases h : c.refusal <;> simp only [h] <;> rfl

/-! ### The owners -/

/-- What an owner has done and answered, with other replies queued. -/
def liftReplies (p : State × Answer) : State × Answer := (p.1.withReplies q, p.2)

/-- What an owner does and answers does not depend on the replies that are queued. -/
theorem serve_withReplies (r : Request) (s : State) :
    serve r (s.withReplies q) = ((serve r s).1.withReplies q, (serve r s).2) := by
  cases r
  case setStroke w =>
    simp only [serve, serveSetStroke]
    show (if !s.stroke.state.idle then _ else _) = _
    split
    · rfl
    · split
      · rfl
      · refine Prod.ext ?_ rfl
        show homeChange s.home _ = _
        unfold acceptParams
        rw [← homeChange_withReplies]
        show homeChange _ (if w.params = s.stroke.params then _ else _) = _
        split <;> rfl
  case setLines w =>
    simp only [serve, serveSetLines]
    show (if !lineCountOk w then _ else if !s.stroke.state.idle then _ else _) = _
    split
    · rfl
    · split
      · rfl
      · split
        · rfl
        · refine Prod.ext ?_ rfl
          unfold acceptLines
          rw [← guardChange_withReplies, ← homeChange_withReplies]
          rfl
  case abort =>
    have e (k : StrokeState) : (match k with
        | .approach | .capture | .hold => (halt .aborted (s.withReplies q), Answer.ok)
        | .ready => (disarm (s.withReplies q), .ok)
        | .disarmed | .halted | .retract | .evaluate | .complete =>
            (s.withReplies q, .refusal .state)) =
        let p := match k with
          | .approach | .capture | .hold => (halt .aborted s, Answer.ok)
          | .ready => (disarm s, .ok)
          | .disarmed | .halted | .retract | .evaluate | .complete => (s, .refusal .state)
        (p.1.withReplies q, p.2) := by
      cases k <;> first
        | rfl
        | exact Prod.ext (halt_withReplies q _ s) rfl
    exact e s.stroke.state
  case arm =>
    have e (u : State) : armRefusal (u.withReplies q) = armRefusal u := rfl
    simp only [serve, serveArm, commitClosed_withReplies, e]
    change (if (!s.stroke.state.idle) = true then _ else _) = liftReplies q _
    rw [apply_ite (liftReplies q)]
    refine ite_congr rfl (fun _ => rfl) (fun _ => ?_)
    cases (armRefusal s).or (armRefusal (commitClosed s)) <;> rfl
  case mapAdd rs =>
    simp only [serve, serveMapAdd]
    change _ = liftReplies q _
    rw [apply_ite (liftReplies q)]
    refine ite_congr rfl (fun _ => rfl) (fun _ => ?_)
    cases firstBadPin rs with
    | some i => rfl
    | none => rw [apply_ite (liftReplies q)]; exact ite_congr rfl (fun _ => rfl) (fun _ => rfl)
  case setClass w =>
    simp only [serve, serveSetClass]
    change (if (!s.stroke.state.idle) = true then _ else _) = liftReplies q _
    rw [apply_ite (liftReplies q)]
    refine ite_congr rfl (fun _ => rfl) (fun _ => ?_)
    cases firstFailing w.fails with
    | some i => rfl
    | none => exact Prod.ext (acceptClass_withReplies ..) rfl
  all_goals
    simp only [serve, servePing, serveStatus, serveCountersRead, serveSetLink, serveToolReset,
      serveSetSense, serveSetSegment, serveGetSegment, serveSnapshot, serveTare, serveShuntCheck,
      serveGetStroke, serveDisarm, serveLockoutRead, serveLockoutClear, serveMapBegin,
      serveMapCommit, serveMapRead, serveGetClass, serveProfileRead,
      serveResultRead, serveResultSummary, serveWriteLines, serveReadLines, withReplies_acq,
      withReplies_cal, withReplies_stroke, withReplies_guard, withReplies_map, withReplies_engine,
      withReplies_home, withReplies_maintOn]
  all_goals
    first
      | rfl
      | (split <;> rfl)
      | (change _ = liftReplies q _
         simp only [apply_ite (liftReplies q)]
         (repeat' refine ite_congr rfl (fun _ => ?_) (fun _ => ?_)) <;> first
           | rfl
           | exact Prod.ext (acceptSegment_withReplies ..) rfl
           | (split <;> rfl))

end Sys2Proof.Machine
end

