-- ==== Sys2Proof/Tests/Slice0.lean ====
section
/-! SUPPORT. Tests on fixed values, their expected results from the worked tables of spec/ named in
each docstring, and witnesses: concrete states and operands that meet the hypotheses of the
statements in Certificates/Slice0/Obligations.lean. -/

namespace Sys2Proof.Tests

open Sys2Proof Sys2Proof.Machine

/-! ### WellFormed: one refused term per check -/

theorem test_mapAdd_empty_refused : (Instr.mapAdd []).wellFormed = false := by decide

theorem test_mapAdd_41_refused :
    (Instr.mapAdd (List.replicate 41 { pin := 1, segment := 0, engage := 0, cls := 0 })).wellFormed
      = false := by decide

theorem test_setLines_seven_refused :
    (Instr.setLines (List.replicate 7 { function := 0, active := 0 })).wellFormed = false := by
  decide

theorem test_round_63_refused :
    (Instr.conversionRoundClose (List.replicate 63 0)).wellFormed = false := by decide

theorem test_pulse_9_refused : (Instr.resetNToolReset 9).wellFormed = false := by decide

theorem test_pulse_10000_refused : (Instr.resetNToolReset 10000).wellFormed = false := by decide

theorem test_length_249_refused : (Instr.headerLengthError 249).wellFormed = false := by decide

/-! ### The link's fields (10 R178, R179) -/

/-- The check value of 10 R178: "123456789" gives 0x29B1. -/
theorem test_crc_check_value :
    crc [0x31#8, 0x32#8, 0x33#8, 0x34#8, 0x35#8, 0x36#8, 0x37#8, 0x38#8, 0x39#8] = 0x29B1#16 := by
  decide +kernel

/-- SET_LINK of 500 ms: the most significant byte first. -/
theorem test_decode_setLink : decodeRequest 0x04#8 [0x01#8, 0xF4#8] = .request (.setLink 500) := by
  decide

/-- One record of MAP_ADD (06 R104, 10 R179): pin 105, segment 12, engage station 33, class 2. -/
theorem test_decode_mapAdd :
    decodeRequest 0x21#8 [0x00#8, 0x69#8, 0x0C#8, 0x00#8, 0x21#8, 0x02#8] =
      .request (.mapAdd [{ pin := 105, segment := 12, engage := 33, cls := 2 }]) := by
  decide

/-- SET_SEGMENT (01 R15): segment 5, enabled, unmasked, gain 5120, reference 4000, limit 3000. -/
theorem test_decode_setSegment :
    decodeRequest 0x09#8
      [0x05#8, 0x01#8, 0x00#8, 0x14#8, 0x00#8, 0x0F#8, 0xA0#8, 0x0B#8, 0xB8#8] =
      .request (.setSegment
        { segment := 5, enabled := 1, masked := 0, gain := 5120, shuntRef := 4000
          tripLimit := 3000 }) := by
  decide

/-- SET_STROKE with the values of the parameter table (04 R61): 37 bytes, fields in order. -/
theorem test_decode_setStroke :
    decodeRequest 0x10#8
      [0x00#8, 0x07#8, 0xD0#8, 0x01#8, 0x86#8, 0xA0#8, 0x02#8, 0x49#8, 0xF0#8, 0x0A#8, 0x04#8,
       0x00#8, 0x00#8, 0x04#8, 0x00#8, 0x00#8, 0x07#8, 0xD0#8, 0x00#8, 0x00#8, 0x00#8, 0x00#8,
       0x00#8, 0x00#8, 0x02#8, 0x49#8, 0xF0#8, 0x00#8, 0xC8#8, 0x10#8, 0x03#8, 0x00#8, 0x20#8,
       0x00#8, 0x00#8, 0x03#8, 0x05#8] =
      .request (.setStroke
        { homeZone := 2000, captureStart := 100000, endPosition := 150000, pitch := 10
          maxStations := 1024, mode := 0, span := 4, rise := 2000, floor := 0, earliest := 0
          seatPosition := 150000, dwell := 200, allowance := 16, segPersistence := 3
          totalLimit := 2097152, totalPersistence := 3, tolerance := 5 }) := by
  decide

/-- A kind without a request, and one byte too many (10 R182). -/
theorem test_decode_refusals :
    decodeRequest 0x06#8 [] = .badKind ∧ decodeRequest 0x01#8 [0x00#8] = .badLength := by decide

/-! ### Forces (01, worked conversions) -/

/-- A segment record of the table. -/
def gained (gain : Nat) (offset : Int) : Segment :=
  { Segment.initial with enabled := true, gain := gain, offset := offset }

theorem test_conversions :
    ((gained 5120 (-312)).sample false 20000).force = 25390 ∧
    ((gained 5120 0).sample false 1001).force = 1251 ∧
    ((gained 5120 0).sample false (-1001)).force = -1251 ∧
    ((gained 2048 0).sample false 1).force = 1 ∧
    ((gained 2048 0).sample false (-1)).force = -1 := by decide

theorem test_conversions_sat :
    ((gained 65535 0).sample false 4000) =
      { raw := some 4000, force := 32767, sat := true, settling := false } ∧
    ((gained 1 0).sample false 131071).force = 32767 ∧
    ((gained 4096 200).sample true (-131072)) =
      { raw := some (-131072), force := -32768, sat := true, settling := true } := by decide

/-- Shares of 07 R136: 1579 over 2 pins, 796 over 3, −5 over 2, 65535 over 1. -/
theorem test_shares :
    shareOf 1579 2 = 790 ∧ shareOf 796 3 = 265 ∧ shareOf (-5) 2 = -3 ∧ shareOf 65535 1 = 32767 := by
  decide

/-! ### Tare and shunt (02, worked tare and worked shunt judgement) -/

/-- The means of the worked tare. -/
theorem test_tare_means :
    meanOf16 (-4984) = -312 ∧ meanOf16 281000 = 17563 ∧ meanOf16 (-130472) = -8155 := by decide

/-- A mean above the range is clamped and marked, and a rail seen marks OPEN over it. -/
theorem test_tare_segments :
    (tareSegment 17563 false (gained 4096 0)).offset = 16383 ∧
    (tareSegment 17563 false (gained 4096 0)).status = .offsetLimit ∧
    (tareSegment (-8155) true (gained 4096 0)).offset = -8155 ∧
    (tareSegment (-8155) true (gained 4096 0)).status = .opened := by decide

/-- Segments 16 to 20 of the worked judgement, at 5 percent. -/
theorem test_shunt_statuses :
    let reads (reference : Nat) (status : SegStatus) (sum : Int) : SegStatus :=
      shuntStatus { gained 4096 0 with shuntRef := reference, status := status } 5 (meanOf16 sum)
        false
    reads 4000 .unchecked 61600 = .ok ∧ reads 4000 .unchecked 60632 = .shuntLow ∧
    reads 333 .unchecked 5592 = .shuntHigh ∧ reads 0 .unchecked 58400 = .shuntLow ∧
    reads 3000 .offsetLimit 47840 = .offsetLimit := by decide

/-! ### The map committed in chapter 6 and judged in chapter 7 -/

/-- A pin record. -/
def pinAt (pin segment engage cls : Nat) : PinRecord :=
  { pin := pin, segment := segment, engage := engage, cls := cls }

/-- The first eight records of the staging list (06, a map loaded and committed), with the class of
pin 104. -/
def stagedMap (class104 : Nat) : List PinRecord :=
  [pinAt 105 12 33 2, pinAt 101 12 20 2, pinAt 204 3 41 3, pinAt 102 12 20 2, pinAt 103 12 30 2,
   pinAt 104 12 30 class104, pinAt 106 12 60 2, pinAt 201 3 41 3]

/-- Classes 2 and 3 defined, and class 5 when asked. -/
def definedClasses (five : Bool) : List Bool :=
  [false, false, true, true, false, five, false, false]

/-- DUP_PIN at 8, NO_CLASS at 5, MIXED_COHORT at 5, then accepted. -/
theorem test_commits :
    Commit.refusal { list := stagedMap 5 ++ [pinAt 101 5 10 3], defined := definedClasses false } =
      some (.dupPin, 8) ∧
    Commit.refusal { list := stagedMap 5, defined := definedClasses false } = some (.noClass, 5) ∧
    Commit.refusal { list := stagedMap 5, defined := definedClasses true } =
      some (.mixedCohort, 5) ∧
    Commit.refusal { list := stagedMap 2, defined := definedClasses true } = none := by decide

/-- The map unit with the committed map, and the classes of the worked evaluation. -/
def judgedMap : MapUnit :=
  { MapUnit.initial with
    active := [pinAt 201 3 41 3, pinAt 204 3 41 3, pinAt 101 12 20 2, pinAt 102 12 20 2,
               pinAt 103 12 30 2, pinAt 104 12 30 2, pinAt 105 12 33 2, pinAt 106 12 60 2]
    valid := true
    classes := [none, none,
      some { absent := 150, low := 300, high := 1200, lead := 1, span := 4, depth := 2 },
      some { absent := 200, low := 400, high := 1500, lead := 2, span := 6, depth := 3 },
      none, none, none, none] }

/-- Segment 12's forces at stations 17 to 37 of the worked evaluation. -/
def forces12 : List Int :=
  [40, 42, 45, 310, 1480, 1620, 900, 650, 630, 615, 602, 605, 640, 980, 1400, 1210, 1050, 1050,
   1180, 940, 760]

/-- Segment 3's forces at stations 36 to 48. -/
def forces3 : List Int :=
  [120, 118, 125, 160, 410, 1880, 2740, 2961, 2505, 1990, 1720, 1650, 1610]

/-- Station `n` of the worked stroke: station 34 is stale. -/
def workedStation (n : Nat) : Station :=
  { index := n
    forces := [0, 0, 0, if 36 ≤ n then forces3.getD (n - 36) 0 else 0, 0, 0, 0, 0, 0, 0, 0, 0,
               if 17 ≤ n then forces12.getD (n - 17) 0 else 0]
    sats := [], stale := n == 34, total := 0, position := 0 }

/-- The profile of stations 0 to 55. -/
def workedProfile : Profile :=
  { records := (List.range 56).map workedStation, condition := .closed, number := 418 }

/-- The inputs of the worked evaluation, with the last station. -/
def workedInputs (last : Nat) (outcome : StrokeOutcome) : EvalInputs :=
  { last := some last, pitch := 10, usable := List.replicate 64 true, number := 418
    outcome := outcome, secondary := none, secondaryCount := 0, seat := some 52, trip := none
    overtravel := 3 }

/-- The results table of the worked evaluation: verdict, share and size, in map order. -/
theorem test_evaluation :
    (evaluateResults judgedMap workedProfile (workedInputs 55 .seatedOk)).map
        (fun r => (r.pin, r.verdict, r.share, r.size)) =
      [(201, .pass, some 1420, some 2), (204, .pass, some 1420, some 2),
       (101, .pass, some 790, some 2), (102, .pass, some 790, some 2),
       (103, .low, some 265, some 3), (104, .low, some 265, some 3),
       (105, .low, some 265, some 3), (106, .notReached, none, none)] := by decide +kernel

/-- The stroke halted early, L = 22: pins 101 and 102 pass with TRUNCATED, the rest are not
reached. -/
theorem test_evaluation_halted :
    (evaluateResults judgedMap workedProfile (workedInputs 22 (.halt .tripSegment))).map
        (fun r => (r.verdict, r.flags.truncated)) =
      [(.notReached, false), (.notReached, false), (.pass, true), (.pass, true),
       (.notReached, false), (.notReached, false), (.notReached, false), (.notReached, false)] := by
  decide +kernel

/-! ### The report queue (10, worked overflow) -/

/-- An ENCODER_EVENT of severity STROKE. -/
def encoderReport : Report := { kind := 0x44, severity := .stroke, body := [] }

/-- A minor report told by its body. -/
def minorReport (n : Nat) : Report := { kind := 0x40, severity := .info, body := u8 n }

/-- Sixteen reports: APPROACH, CAPTURE and SEGMENT_EVENT, then thirteen of the encoder. -/
def fullLink : Link :=
  { Link.initial Straps.allLow with
    reports := [minorReport 2, minorReport 3, minorReport 4] ++ List.replicate 13 encoderReport }

/-- The first two rows of the overflow table: the oldest minor report goes, a NOTE is discarded. -/
theorem test_overflow :
    (fullLink.post encoderReport).reports =
      [minorReport 3, minorReport 4] ++ List.replicate 14 encoderReport ∧
    (fullLink.post encoderReport).lost = 1 ∧
    ((fullLink.post encoderReport).post { encoderReport with severity := .note }).reports =
      (fullLink.post encoderReport).reports ∧
    ((fullLink.post encoderReport).post { encoderReport with severity := .note }).lost = 2 := by
  decide

/-! ### Small states -/

/-- The part in a stroke state, everything else as at reset. -/
def inState (k : StrokeState) : State :=
  { State.reset with stroke := { State.reset.stroke with state := k } }

/-- The same with the ram home: position 0, referenced. -/
def homeAt (k : StrokeState) : State :=
  { inState k with pos := { State.reset.pos with referenced := true } }

/-- The same with capture open over the parameters' copies, `n` stations latched, and the counter
at `p`. -/
def capturing (k : StrokeState) (n : Nat) (p : Int) : State :=
  { inState k with
    stroke := { State.reset.stroke with state := k, captureOpen := true, quiet := .running }
    pos := { State.reset.pos with
      high := n, counter := p, copies := some State.reset.stroke.params.copies } }

/-- The same with a reply in transmission. -/
def sendingOne (s : State) : State :=
  { s with link := { s.link with sending := some (.reply (replyTo 0x01 .ok [])) } }

/-- A state with empty queues is ready. -/
theorem ready_of {s : State} (h : s.held = false) (d : s.due = []) (r : s.link.replies = [])
    (p : s.link.reports = []) : s.Ready :=
  ⟨h, d, fun _ => ⟨r, p⟩⟩

/-- A state that sends a frame is ready. -/
theorem ready_sending {s : State} {f : OutFrame} (h : s.held = false) (d : s.due = [])
    (f : s.link.sending = some f) : s.Ready :=
  ⟨h, d, fun g => by rw [f] at g; exact absurd g (by simp)⟩

/-- A state with empty queues and an empty buffer serves a request. -/
theorem serving_of {s : State} (h : s.held = false) (d : s.due = []) (r : s.link.replies = [])
    (p : s.link.reports = []) (b : s.link.buffer = .empty) : s.Serving :=
  ⟨ready_of h d r p, b, by rw [r]; decide⟩

/-- The part right after reset serves a request. -/
theorem serving_reset : State.reset.Serving := serving_of rfl rfl rfl rfl rfl

/-! ### One step on small states -/

/-- The state that one command leaves. -/
def after (c : Instr) (s : State) : State :=
  match exec c s with
  | .next t => t
  | .fault _ | .refused _ => s

/-- Four segment-5 rounds of the rail sequence (01): counts 1, 2, 2, 0. -/
def railState (count : Nat) : State :=
  { State.reset with
    acq := { State.reset.acq with
      settleCount := 0, period := .us2000
      segs := State.reset.acq.segs.set 5 (gained 4096 0)
      topPairs := State.reset.acq.topPairs.set 5 count } }

theorem test_rail_sequence :
    let round (n : Nat) (code : Int) : List Due × Option Nat :=
      let t := after (.conversionRoundClose (List.replicate 5 0 ++ [code])) (railState n)
      (t.due, t.acq.topPairs[5]?)
    round 0 131071 = ([], some 1) ∧ round 1 131071 = ([.overrange 5], some 2) ∧
    round 2 131071 = ([], some 2) ∧ round 2 130200 = ([], some 0) := by decide +kernel

/-- One overrange event in DISARMED latches the lockout and drives STOP_N (05 R91, R96). -/
theorem test_overrange_latches :
    let t := after (.overrangeEvent 5) { State.reset with due := [.overrange 5] }
    t.guard.lockout.latched = true ∧ t.guard.lockout.segment = some 5 ∧ t.drivesStop = true ∧
      t.link.sending = some (.report { kind := 0x46, severity := .tool
                                       body := [4, 0, 0, 5, 0xFF, 0xFF] }) := by
  decide +kernel

/-- The A-leads-up direction counts 00 to A = 1 up and back down (03 R40, R41). -/
theorem test_count_up_and_down :
    (after (.encoderCount .a) State.reset).pos.counter = 1 ∧
    (after (.encoderCount .b) State.reset).pos.counter = -1 := by decide +kernel

/-- Leaving the home zone in READY starts stroke 1 (04 R66). -/
theorem test_stroke_start :
    let s := { homeAt .ready with pos := { State.reset.pos with referenced := true, counter := 2000 } }
    let t := after (.encoderCount .a) s
    t.stroke.state = .approach ∧ t.stroke.number = 1 ∧ t.stroke.outcome = .none ∧
      t.link.watchdog = some 500 := by decide +kernel

/-- ABORT in HOLD keeps the outcome and records the secondary cause (04 R73, R75). -/
theorem test_abort_in_hold :
    let t := after .abort (sendingOne (inState .hold))
    t.stroke.state = .halted ∧ t.stroke.secondary = some .aborted ∧ t.stroke.outcome = .none := by
  decide +kernel

/-- A held SNAPSHOT makes STATUS busy and counts an overrun (10, worked table). -/
theorem test_snapshot_busy :
    let t := after .status (after .snapshot State.reset)
    t.link.overruns = 1 ∧ t.link.buffer = .snapshot ∧
      t.link.sending = some (.reply { kind := 0x82, status := .busy, detail := [], resets := false })
      := by decide +kernel

/-- The second expiry halts with LINK_LOST, the count standing at 1 (10, worked table). -/
theorem test_watchdog_second :
    let s := { inState .capture with
      link := { State.reset.link with watchdog := some 500, expiries := 1 } }
    let t := after .watchdogExpiry s
    t.stroke.state = .halted ∧ t.stroke.outcome = .halt .linkLost ∧ t.link.watchdog = none ∧
      t.link.expiries = 1 := by decide +kernel

/-! ### Witnesses: the step and the link -/

theorem witness_StepTakesFrontCommand :
    ({ State.reset with pending := [.ping, .status] } : State).pending = .ping :: [.status] ∧
    (State.reset.pending = [] ∧ State.reset.due = [] ∧ State.reset.engine.run = none ∧
      State.reset.pos.encZ = .low ∧ State.reset.held = false) ∧
    (let s : State := { State.reset with held := true }; s.pending = [] ∧ s.held = true) ∧
    (let s : State := { State.reset with
        engine := { Engine.initial with run := some (evalInputs State.reset) } };
      s.pending = [] ∧ s.due = [] ∧ s.held = false ∧ s.pos.encZ = .low ∧
        s.engine.run = some (evalInputs State.reset)) ∧
    (let s : State := { State.reset with pos := { State.reset.pos with encZ := .high } };
      s.pending = [] ∧ s.due = [] ∧ s.held = false ∧ s.engine.run = none ∧ s.pos.encZ = .high) :=
  ⟨rfl, ⟨rfl, rfl, rfl, rfl, rfl⟩, ⟨rfl, rfl⟩, ⟨rfl, rfl, rfl, rfl, rfl⟩, rfl, rfl, rfl, rfl, rfl⟩

theorem witness_RequestFramesRoundTrip :
    Request.ping.wellFormed = true ∧
    (Request.mapAdd (List.replicate 40 { pin := 1, segment := 0, engage := 0, cls := 0 })).wellFormed
      = true ∧
    (Request.setLines (List.replicate 8 { function := 0, active := 0 })).wellFormed = true := by
  decide

/-- The part with the receiver at `r`. -/
def receiving (r : Receiver) : State :=
  { State.reset with link := { State.reset.link with receiver := r } }

/-- The part one check byte short of the frame of `kind` and `p`. -/
def nearEnd (kind : Byte) (p : List Byte) : State :=
  receiving (.check (lengthByte p) (kind :: p)
    (some ((crc (lengthByte p :: kind :: p)).extractLsb' 8 8)))

theorem witness_FramesAreDispatchedByKindAndLength :
    ((0x04, 2) ∈ fixedLengths ∧ [0x00#8].length ≠ 2) ∧
    ((0x10, 37) ∈ fixedLengths ∧ (List.replicate 37 0#8).length = 37) ∧
    ¬(6 ∣ (List.replicate 246 0#8).length ∧ 6 ≤ (List.replicate 246 0#8).length ∧
      (List.replicate 246 0#8).length ≤ 240) ∧
    (∀ n, ((0x06#8).toNat, n) ∉ fixedLengths) ∧ (0x06#8).toNat ≠ 0x21 ∧
    (nearEnd 0x06 []).Serving ∧ decodeRequest 0x06 [] = .badKind ∧
    decodeRequest 0x04 [0x00] = .badLength ∧ decodeRequest 0x01 [] = .request .ping ∧
    crc [0x01, 0x06] = (crc [0x01, 0x06]).extractLsb' 8 8 ++ (crc [0x01, 0x06]).extractLsb' 0 8 := by
  refine ⟨by decide, by decide, by decide +kernel, fun n h => ?_, by decide,
    serving_of rfl rfl rfl rfl rfl, by decide +kernel, by decide, by decide, by decide +kernel⟩
  simp [fixedLengths] at h

theorem witness_FrameBytesRunTheRequest :
    Request.ping.wellFormed = true ∧ State.reset.Ready ∧ State.reset.link.receiver = .seek :=
  ⟨rfl, serving_reset.toReady, rfl⟩

theorem witness_ReceiverTakesBytesAndGaps (r : Receiver) :
    (receiving r).Ready ∧ (receiving r).link.receiver = r ∧
    1 ≤ (1#8).toNat ∧ (249#8).toNat ≤ 249 ∧ (0#8).toNat = 0 ∧ 250 ≤ (250#8).toNat ∧
    crc [0x01, 0x01] ≠ 0#8 ++ 0#8 :=
  ⟨ready_of rfl rfl rfl rfl, rfl, by decide, by decide, by decide, by decide, by decide +kernel⟩

/-- The part with the buffer at `b`. -/
def holding (b : Buffer) : State :=
  { State.reset with link := { State.reset.link with buffer := b } }

/-- The part with four replies behind the one it sends, and a fifth waiting. -/
def crowded : State :=
  { State.reset with
    link := { State.reset.link with
      sending := some (.reply (replyTo 0x01 .ok [])), buffer := .waiting .counters
      replies := List.replicate 4 (replyTo 0x01 .ok []) } }

theorem witness_OccupiedBufferAnswersBusy :
    ((holding .snapshot).Ready ∧ (holding .snapshot).link.buffer ≠ .empty ∧
      ∀ w, (holding .snapshot).link.buffer ≠ .waiting w) ∧
    (crowded.Ready ∧ crowded.link.buffer ≠ .empty ∧ crowded.link.replies.length = 4) :=
  ⟨⟨ready_of rfl rfl rfl rfl, by decide, fun w => by simp [holding]⟩,
    ready_sending rfl rfl rfl, by decide, by decide⟩

theorem witness_PingAndStatusAnswer : State.reset.Serving := serving_reset

theorem witness_LinkCountersAndInterval :
    State.reset.Serving ∧ ((inState .approach).Serving ∧ (inState .approach).stroke.state = .approach) ∧
    (50 ≤ (50#16).toNat ∧ (2000#16).toNat ≤ 2000) ∧
    ¬((49#16).toNat = 0 ∨ (50 ≤ (49#16).toNat ∧ (49#16).toNat ≤ 2000)) :=
  ⟨serving_reset, ⟨serving_of rfl rfl rfl rfl rfl, rfl⟩, by decide, by decide⟩

/-- The part sending the OK of a TOOL_RESET. -/
def resetting : State :=
  { State.reset with
    link := { State.reset.link with
      buffer := .toolReset
      sending := some (.reply { replyTo 0x05 .ok [] with resets := true }) } }

theorem witness_ToolResetActsAfterItsReply :
    State.reset.Serving ∧ State.reset.Ready ∧ State.reset.link.buffer ≠ .waiting .counters ∧
    (resetting.held = false ∧ resetting.due = [] ∧
      resetting.link.sending = some (.reply { replyTo 0x05 .ok [] with resets := true })) ∧
    (({ State.reset with due := [.toolReset] } : State).held = false ∧
      ({ State.reset with due := [.toolReset] } : State).due = [.toolReset]) ∧
    (crowded.held = false ∧ crowded.due = [] ∧ crowded.link.buffer = .waiting .counters ∧
      ({ crowded with due := [.toolReset] } : State).due = [.toolReset] ∧ 10 ≤ 10 ∧ 10 < 10000) ∧
    (∀ b, (holding b).held = false ∧ (holding b).due = [] ∧ (holding b).link.buffer = b) :=
  ⟨serving_reset, serving_reset.toReady, by decide, ⟨rfl, rfl, rfl⟩, ⟨rfl, rfl⟩,
    ⟨rfl, rfl, rfl, rfl, by decide, by decide⟩, fun _ => ⟨rfl, rfl, rfl⟩⟩

theorem witness_FrameEndChoosesTheNextFrame :
    (State.reset.held = false ∧ State.reset.Ready ∧ State.reset.link.sending = none) ∧
    (crowded.held = false ∧ crowded.due = [] ∧ crowded.link.replies =
      replyTo 0x01 .ok [] :: List.replicate 3 (replyTo 0x01 .ok []) ∧
      crowded.link.sending = some (.reply (replyTo 0x01 .ok []))) ∧
    (let s : State := { State.reset with
        link := { fullLink with sending := some (.reply (replyTo 0x01 .ok [])) } };
      s.held = false ∧ s.due = [] ∧ s.link.replies = [] ∧ s.link.reports.length = 16) ∧
    (sendingOne State.reset).link.replies = [] ∧ (sendingOne State.reset).link.reports = [] ∧
    (let s : State := { holding (.waiting (.made (replyTo 0x01 .ok []))) with due := [.deferredReply] };
      s.held = false ∧ s.due = [.deferredReply] ∧ s.link.fed ∧ s.link.replies.length < 4) ∧
    (let s : State := { holding (.waiting .counters) with due := [.deferredReply] };
      s.held = false ∧ s.due = [.deferredReply] ∧ s.link.fed ∧
        s.link.buffer = .waiting .counters ∧ s.link.replies.length < 4) ∧
    (let s : State := { crowded with link := { crowded.link with buffer := .empty } };
      s.Ready ∧ s.link.buffer = .empty ∧ s.link.replies.length = 4) ∧
    Request.toolReset ≠ .countersRead :=
  ⟨⟨rfl, serving_reset.toReady, rfl⟩, ⟨rfl, rfl, rfl, rfl⟩, ⟨rfl, rfl, rfl, rfl⟩, rfl, rfl,
    ⟨rfl, rfl, fun _ => ⟨rfl, rfl⟩, by decide⟩, ⟨rfl, rfl, fun _ => ⟨rfl, rfl⟩, rfl, by decide⟩,
    ⟨ready_sending rfl rfl rfl, rfl, rfl⟩, by decide⟩

theorem witness_LinkResetEmptiesTheReplySide : State.reset.held = false ∧ State.reset.due = [] :=
  ⟨rfl, rfl⟩

/-- The part in CAPTURE, away from home, with the watchdog running. -/
def watched (expiries : Nat) : State :=
  { inState .capture with
    link := { State.reset.link with watchdog := some 500, expiries := expiries } }

theorem witness_WatchdogExpiresTwice :
    State.reset.Ready ∧ State.reset.link.watchdog = none ∧ (watched 0).Ready ∧ (watched 1).Ready ∧
    (watched 1).link.watchdog = some 500 ∧ (watched 1).stroke.state.descending = true ∧
    (watched 1).home = false ∧
    (let s : State := { watched 1 with pos := { State.reset.pos with referenced := true } };
      s.Ready ∧ s.link.watchdog = some 500 ∧ s.link.expiries = 1 ∧
        s.stroke.state.descending = true ∧ s.home = true) :=
  ⟨serving_reset.toReady, rfl, ready_of rfl rfl rfl rfl, ready_of rfl rfl rfl rfl, rfl, rfl, rfl,
    ready_of rfl rfl rfl rfl, rfl, rfl, rfl, rfl⟩

theorem witness_ReportQueueOverflows :
    (Link.initial Straps.allLow).reports.length < 16 ∧
    (fullLink.reports = [] ++ minorReport 2 :: ([minorReport 3, minorReport 4] ++
      List.replicate 13 encoderReport) ∧ fullLink.reports.length = 16 ∧
      encoderReport.severity = .stroke ∧ (minorReport 2).severity = .info) ∧
    (let l : Link := { fullLink with reports := List.replicate 16 encoderReport };
      l.reports.length = 16 ∧ ∀ q ∈ l.reports, q.severity = .stroke ∨ q.severity = .tool) := by
  decide

theorem witness_PowerOnResetGivesTheResetValues :
    ({ State.reset with held := true } : State).held = true ∧ Instr.ping ≠ .powerOnReset := by decide

/-! ### Witnesses: acquisition and calibration -/

/-- An operation of `job` in `phase`, with `rounds` taken, over segment 16. -/
def operation (job : CalJob) (phase : CalPhase) (rounds : Nat) : CalRun :=
  { job := job, phase := phase, rounds := rounds, participants := [16]
    sums := List.replicate 64 0, rails := List.replicate 64 false }

/-- A SHUNT_CHECK of the groups. -/
def shuntOf (groups : List Nat) : CalJob :=
  .shunt
    { groups := groups, tolerance := 5, finished := []
      tally := { ok := 0, shuntLow := 0, shuntHigh := 0, opened := 0, offsetLimit := 0 } }

/-- The part at home with an operation running, and what is due. -/
def calibrating (r : CalRun) (due : List Due) : State :=
  { homeAt .disarmed with cal := { State.reset.cal with run := some r }, due := due }

theorem witness_SetSenseForcesASettle :
    ((calibrating (operation .tare .average 0) []).Serving ∧
      (calibrating (operation .tare .average 0) []).cal.run.isSome = true) ∧
    ((inState .ready).Serving ∧ (inState .ready).cal.run = none ∧
      (inState .ready).stroke.state.idle = false) ∧
    (State.reset.Serving ∧ State.reset.cal.run = none ∧ State.reset.stroke.state.idle = true) ∧
    (251#16).toNat ∉ [250, 500, 1000, 2000] ∧
    ((250#16).toNat, Period.us250) ∈
      [(250, Period.us250), (500, .us500), (1000, .us1000), (2000, .us2000)] :=
  ⟨⟨serving_of rfl rfl rfl rfl rfl, rfl⟩, ⟨serving_of rfl rfl rfl rfl rfl, rfl, rfl⟩,
    ⟨serving_reset, rfl, rfl⟩, by decide, by decide⟩

/-- A SET_SEGMENT for segment 63. -/
def segmentWire (enabled : Byte) (trip : BitVec 16) : SegmentWire :=
  { segment := 63, enabled := enabled, masked := 0, gain := 4096, shuntRef := 0, tripLimit := trip }

theorem witness_SetSegmentWritesTheRecord :
    (State.reset.Serving ∧ State.reset.cal.run = none ∧ State.reset.stroke.state.idle = true) ∧
    State.reset.acq.segs[(segmentWire 0 32767).segment.toNat]? = some Segment.initial ∧
    segmentFieldsInRange (segmentWire 0 32767) ∧ ¬segmentFieldsInRange (segmentWire 0 32768) ∧
    ({ Segment.initial with enabled := decide ((segmentWire 0 32767).enabled.toNat = 1) } : Segment) =
      Segment.initial ∧
    segmentFieldsInRange (segmentWire 1 1) ∧
    ({ Segment.initial with enabled := decide ((segmentWire 1 1).enabled.toNat = 1) } : Segment) ≠
      Segment.initial :=
  ⟨⟨serving_reset, rfl, rfl⟩, rfl, by unfold segmentFieldsInRange; decide,
    by unfold segmentFieldsInRange; decide, by decide, by unfold segmentFieldsInRange; decide,
    by decide⟩

theorem witness_SegmentsAndSamplesAreRead :
    State.reset.Serving ∧ 63 < (64#8).toNat ∧
    ((63#8).toNat ≤ 63 ∧ State.reset.acq.segs[(63#8).toNat]? = some Segment.initial) ∧
    ((holding .snapshot).Ready ∧ (holding .snapshot).link.buffer = .snapshot ∧
      (holding .snapshot).link.replies.length < 4) ∧
    (let s := { holding .snapshot with due := [.snapshotReply] };
      s.held = false ∧ s.pending = [] ∧ s.due = [.snapshotReply] ∧ s.link.fed ∧
      s.link.buffer = .snapshot ∧ s.link.replies.length < 4) :=
  ⟨serving_reset, by decide, ⟨by decide, rfl⟩, ⟨ready_of rfl rfl rfl rfl, rfl, by decide⟩,
    rfl, rfl, rfl, (ready_of rfl rfl rfl rfl : (holding .snapshot).Ready).fed, rfl, by decide⟩

theorem witness_CalibrationIsAcceptedAtHome :
    ((calibrating (operation .tare .average 0) []).Serving ∧
      (calibrating (operation .tare .average 0) []).cal.run.isSome = true) ∧
    ((inState .ready).Serving ∧ (inState .ready).stroke.state.idle = false) ∧
    (State.reset.Serving ∧ State.reset.cal.run = none ∧ State.reset.stroke.state.idle = true ∧
      State.reset.home = false) ∧
    ((homeAt .complete).Serving ∧ (homeAt .complete).cal.run = none ∧
      (homeAt .complete).stroke.state.idle = true ∧ (homeAt .complete).home = true) ∧
    4 < (5#8).toNat ∧ (4#8).toNat ≤ 4 ∧ (4#8).toNat = 4 :=
  ⟨⟨serving_of rfl rfl rfl rfl rfl, rfl⟩, ⟨serving_of rfl rfl rfl rfl rfl, rfl⟩,
    ⟨serving_reset, rfl, rfl, rfl⟩, ⟨serving_of rfl rfl rfl rfl rfl, rfl, rfl, rfl⟩,
    by decide, by decide, by decide⟩

/-- The part with a step due. -/
def owing (s : State) (d : Due) : State := { s with due := [d] }

/-- The part at home with an operation running and nothing settling. -/
def rounding (r : CalRun) : State :=
  { calibrating r [] with acq := { State.reset.acq with settleCount := 0 } }

theorem witness_TareAveragesAndWritesOffsets :
    (∀ r : CalRun, (rounding r).Ready ∧ (rounding r).link.buffer ≠ .snapshot ∧
      (rounding r).acq.settleCount = 0 ∧ (rounding r).cal.run = some r) ∧
    (16 ∈ (operation (shuntOf [1]) .average 15).participants ∧
      (operation (shuntOf [1]) .average 15).job = shuntOf [1] ∧ [1].head? = some (16 / 16) ∧
      [0].head? ≠ some (16 / 16) ∧ 15 ∉ (operation .tare .average 0).participants ∧
      (operation .tare .average 0).sums[16]? = some 0 ∧
      (operation .tare .average 0).rails[16]? = some false ∧
      (after (.conversionRoundClose []) (rounding (operation .tare .average 0))).acq.latest.samples[16]?
        = some Sample.disabled) ∧
    (let s := calibrating (operation .tare .waitSettle 0) [.settleEnd];
      s.held = false ∧ s.link.fed ∧ s.cal.run = some (operation .tare .waitSettle 0)) ∧
    (operation (shuntOf [0, 1]) .waitSettle 0).job = shuntOf (0 :: [1]) ∧
    (operation (shuntOf [3]) .shuntWait 8).phase = .shuntWait ∧
    (let s := calibrating (operation .tare .average 16) [.tareCompletion];
      s.held = false ∧ s.link.fed ∧ s.due = [.tareCompletion] ∧
      s.cal.run = some (operation .tare .average 16)) :=
  ⟨fun _ => ⟨ready_of rfl rfl rfl rfl, nofun, rfl, rfl⟩,
    ⟨by decide, rfl, by decide, by decide, by decide, by decide, by decide, by decide +kernel⟩,
    ⟨rfl, fun _ => ⟨rfl, rfl⟩, rfl⟩, rfl, rfl, rfl, fun _ => ⟨rfl, rfl⟩, rfl, rfl⟩

theorem witness_ShuntGroupIsJudged (rest : List Nat) :
    let s := calibrating (operation (shuntOf (1 :: rest)) .average 16) [.shuntGroupJudged];
    s.held = false ∧ s.link.fed ∧ s.due = [.shuntGroupJudged] ∧
      s.cal.run = some (operation (shuntOf (1 :: rest)) .average 16) ∧ s.link.reports.length < 16 ∧
      ∀ n ∈ (operation (shuntOf (1 :: rest)) .average 16).participants, n < s.acq.segs.length :=
  ⟨rfl, fun _ => ⟨rfl, rfl⟩, rfl, rfl, by show 0 < 16; decide,
    fun n h => by rw [List.mem_singleton.mp h]; show 16 < 64; decide⟩

theorem witness_ForcesFollowFromBridgeOutputs :
    0 < 1 ∧ (gained 4096 0).enabled = true ∧ (-131072 : Int) ≤ -131072 ∧ (131071 : Int) ≤ 131071 ∧
    (Period.us250, (8 : Int)) ∈ [(Period.us250, 8), (.us500, 4), (.us1000, 2), (.us2000, 1)] ∧
    (8 : Int) ∣ 131064 := by decide

/-- The part with the settle count at `n`. -/
def settlingAt (n : Nat) (k : StrokeState) : State :=
  { inState k with acq := { State.reset.acq with settleCount := n } }

theorem witness_RoundCloseFormsTheSampleSet :
    (State.reset.Ready ∧ State.reset.link.buffer ≠ .snapshot ∧ State.reset.acq.settleCount = 7 + 1) ∧
    ((settlingAt 1 .disarmed).Ready ∧ (settlingAt 1 .disarmed).acq.settleCount = 0 + 1) ∧
    ((settlingAt 0 .disarmed).Ready ∧ (settlingAt 0 .disarmed).acq.settleCount = 0) :=
  ⟨⟨serving_reset.toReady, by decide, rfl⟩, ⟨ready_of rfl rfl rfl rfl, rfl⟩,
    ready_of rfl rfl rfl rfl, rfl⟩

/-- The stores of the part in any stroke state, settled, lie in their bounds. -/
theorem storeBounds_settled (k : StrokeState) : (settlingAt 0 k).StoreBounds where
  segments := rfl
  segment := fun g h => by
    rw [List.eq_of_mem_replicate h]
    exact ⟨by decide, by decide, by decide, by decide⟩
  settle := by show 0 ≤ 8; decide
  topCount := rfl
  top := fun n h => by rw [List.eq_of_mem_replicate h]; decide
  bottomCount := rfl
  bottom := fun n h => by rw [List.eq_of_mem_replicate h]; decide
  latest := ⟨rfl, fun x h => by rw [List.eq_of_mem_replicate h]; decide,
    (by decide +kernel : State.reset.acq.latest.total =
      (State.reset.acq.latest.samples.map Sample.force).sum)⟩
  published := fun _ h => absurd h (by simp [settlingAt, inState, State.reset, State.released,
    Acq.initial])
  counter := by show (-8388608 : Int) ≤ 0 ∧ (0 : Int) ≤ 8388607; decide
  persistCount := rfl
  persist := fun n h => by rw [List.eq_of_mem_replicate h]; decide
  totalPersist := by show 0 ≤ 16; decide
  overtravel := by show 0 ≤ 1024; decide
  repeats := by show 0 ≤ 255; decide
  secondary := by show 0 ≤ 255; decide
  staging := by show 0 ≤ 2048; decide
  classes := rfl
  lines := rfl

theorem witness_PublicationCountsRailsAndTrips :
    ((settlingAt 0 .capture).Ready ∧ (settlingAt 0 .capture).link.buffer ≠ .snapshot ∧
      (settlingAt 0 .capture).acq.settleCount = 0 ∧ (settlingAt 0 .capture).StoreBounds ∧
      (settlingAt 0 .capture).examinesTrips = true) ∧
    ((settlingAt 0 .ready).Ready ∧ (settlingAt 0 .ready).StoreBounds ∧
      (settlingAt 0 .ready).examinesTrips = false) :=
  ⟨⟨ready_of rfl rfl rfl rfl, by decide, rfl, storeBounds_settled _, rfl⟩,
    ready_of rfl rfl rfl rfl, storeBounds_settled _, rfl⟩

/-! ### Witnesses: stroke requests, guard, map, records, lines -/

/-- A SET_STROKE of the reset values, with two fields to vary. -/
def strokeWire (homeZone : BitVec 24) (tolerance : Byte) : StrokeWire :=
  { homeZone := homeZone, captureStart := 100000, endPosition := 150000, pitch := 10
    maxStations := 1024, mode := 0, span := 4, rise := 2000, floor := 0, earliest := 0
    seatPosition := 150000, dwell := 200, allowance := 16, segPersistence := 3
    totalLimit := 2097152, totalPersistence := 3, tolerance := tolerance }

/-- The parameter set of that request. -/
def strokeSet (homeZone : Nat) : Params := { Params.initial with homeZone := homeZone }

/-- The part with the parameter set, at counter `p`, referenced. -/
def zoned (homeZone : Nat) (p : Int) : State :=
  { State.reset with
    stroke := { State.reset.stroke with params := strokeSet homeZone }
    pos := { State.reset.pos with referenced := true, counter := p } }

theorem witness_SetStrokeReplacesTheSet :
    ((inState .ready).Serving ∧ (inState .ready).stroke.state.idle = false) ∧
    (∃ p, (strokeConditions (strokeWire 500001 5))[0]? = some p ∧ ¬p) ∧
    (∃ p, (strokeConditions (strokeWire 2000 21))[16]? = some p ∧ ¬p ∧
      ∀ q ∈ (strokeConditions (strokeWire 2000 21)).take 16, q) ∧
    (∀ p ∈ strokeConditions (strokeWire 99999 20), p) ∧
    [SeatingMode.force, .position, .either][(strokeWire 99999 20).mode.toNat]? = some .force ∧
    ((zoned 2000 0).Serving ∧ (zoned 2000 0).stroke.state.idle = true ∧
      (zoned 1999 0).home = (zoned 2000 0).home) ∧
    ((zoned 2000 2000).home = true ∧ (zoned 1999 2000).home = false ∧
      (zoned 2000 2000).cal.run = none) ∧
    ((zoned 2000 2001).home = false ∧ (zoned 2001 2001).home = true) ∧
    (let s : State := { zoned 2000 2000 with cal := (calibrating (operation .tare .average 0) []).cal };
      s.Serving ∧ s.home = true ∧ s.cal.run.isSome = true) := by
  refine ⟨⟨serving_of rfl rfl rfl rfl rfl, rfl⟩, ⟨_, rfl, by decide⟩, ⟨_, rfl, by decide, ?_⟩, ?_,
    rfl, ⟨serving_of rfl rfl rfl rfl rfl, rfl, rfl⟩, ⟨rfl, rfl, rfl⟩, ⟨rfl, rfl⟩,
    serving_of rfl rfl rfl rfl rfl, rfl, rfl⟩
  · intro q h
    simp only [strokeConditions, List.take_succ_cons, List.take_zero, List.mem_cons,
      List.not_mem_nil, or_false] at h
    rcases h with h | h | h | h | h | h | h | h | h | h | h | h | h | h | h | h <;> subst h <;>
      decide
  · intro q h
    simp only [strokeConditions, List.mem_cons, List.not_mem_nil, or_false] at h
    rcases h with h | h | h | h | h | h | h | h | h | h | h | h | h | h | h | h | h <;> subst h <;>
      decide

theorem witness_GetStrokeReturnsTheSet : State.reset.Serving := serving_reset

/-- The part with every precondition of ARM met, but for a segment's status and the lockout. -/
def armable (g : Segment) (latched : Bool) : State :=
  { homeAt .complete with
    stroke := { State.reset.stroke with state := .complete, paramsValid := true }
    cal := { State.reset.cal with tareValid := true }
    acq := { State.reset.acq with segs := List.replicate 63 Segment.initial ++ [g] }
    map := { State.reset.map with valid := true, active := [pinAt 1 63 0 0] }
    guard := { State.reset.guard with lockout := { Lockout.initial with latched := latched } } }

/-- Only segment 63 of that part can hold back ARM. -/
theorem armable_segments (g : Segment) (latched : Bool) (n : Nat) (h : n < 63) :
    ¬notOkForArm (armable g latched) n := by
  rintro ⟨x, hx, he, -⟩
  have : (armable g latched).acq.segs[n]? = some Segment.initial := by
    show (List.replicate 63 Segment.initial ++ [g])[n]? = some Segment.initial
    rw [List.getElem?_append_left (by rw [List.length_replicate]; exact h),
      List.getElem?_replicate, if_pos h]
  rw [this] at hx
  cases hx
  exact absurd he (by decide)

/-- With that segment disabled every precondition of ARM is met. -/
theorem armable_conditions : ∀ c ∈ armConditions (armable Segment.initial false), c.2 := by
  intro d h
  simp only [armConditions, List.mem_cons, List.not_mem_nil, or_false] at h
  rcases h with h | h | h | h | h | h | h | h | h <;> subst h <;>
    first | rfl | exact .inr rfl | skip
  intro n hn
  rcases Nat.lt_or_ge n 63 with h63 | h63
  · exact armable_segments _ _ n h63
  · have : n = 63 := by omega
    subst this
    rintro ⟨x, hx, he, -⟩
    have e : (armable Segment.initial false).acq.segs[63]? = some Segment.initial := by
      decide +kernel
    rw [e] at hx
    cases hx
    exact absurd he (by decide)

/-- The part that ARM would be accepted by, with a commit that a link reset has left running. -/
def orphaned (c : Commit) : State :=
  let s := armable Segment.initial false
  { s with map := { s.map with commit := some c } }

theorem witness_ArmExaminesItsPreconditions :
    ((inState .hold).Serving ∧ (inState .hold).stroke.state.idle = false) ∧
    ((armable (gained 4096 0) true).Serving ∧
      (armable (gained 4096 0) true).stroke.state.idle = true ∧
      ∃ c, (armConditions (armable (gained 4096 0) true))[0]? = some c ∧ ¬c.2 ∧ c.1 ≠ 7) ∧
    ((armable (gained 4096 0) false).Serving ∧ notOkForArm (armable (gained 4096 0) false) 63 ∧
      ∀ d ∈ (armConditions (armable (gained 4096 0) false)).take 6, d.2) ∧
    (∀ c ∈ armConditions (armable Segment.initial false), c.2) ∧
    (∀ g latched, (armable g latched).map.commit = none) ∧
    ((orphaned { list := [], defined := [] }).Serving ∧
      (orphaned { list := [], defined := [] }).stroke.state.idle = true ∧
      (orphaned { list := [], defined := [] }).map.commit.isSome = true ∧
      ∀ c ∈ armConditions (orphaned { list := [], defined := [] }), c.2) := by
  refine ⟨⟨serving_of rfl rfl rfl rfl rfl, rfl⟩,
    ⟨serving_of rfl rfl rfl rfl rfl, rfl, _, rfl, by decide, by decide⟩,
    ⟨serving_of rfl rfl rfl rfl rfl, ⟨gained 4096 0, by decide +kernel, rfl, rfl, by decide, _,
      List.mem_singleton.mpr rfl, rfl⟩, ?_⟩, ?_, fun _ _ => rfl,
    serving_of rfl rfl rfl rfl rfl, rfl, rfl, armable_conditions⟩
  · intro d h
    simp only [armConditions, List.take_succ_cons, List.take_zero, List.mem_cons,
      List.not_mem_nil, or_false] at h
    rcases h with h | h | h | h | h | h <;> subst h <;> first | rfl | exact .inr rfl
  · exact armable_conditions

theorem witness_DisarmActsByState :
    ∀ k : StrokeState, (inState k).Serving ∧ (inState k).stroke.state = k :=
  fun _ => ⟨serving_of rfl rfl rfl rfl rfl, rfl⟩

theorem witness_LockoutReadReturnsTheRecord : State.reset.Serving := serving_reset

/-- The part with the key on line 7, segment 63 as given, and the lockout as given. -/
def keyed (enabled latched : Bool) : State :=
  { State.reset with
    lines := { State.reset.lines with
      lines := List.replicate 7 Line.initial ++
        [{ Line.initial with function := .maint, filtered := .high }] }
    acq := { State.reset.acq with
      segs := List.replicate 63 Segment.initial ++ [{ Segment.initial with enabled := enabled }]
      latest := { State.reset.acq.latest with
        samples := List.replicate 63 Sample.disabled ++
          [{ raw := some 131071, force := 32767, sat := true, settling := false }] } }
    guard := { State.reset.guard with lockout := { Lockout.initial with latched := latched } } }

/-- The key is on. -/
theorem keyed_maint (e l : Bool) : maintActive (keyed e l) :=
  ⟨{ Line.initial with function := .maint, filtered := .high }, rfl, rfl⟩

/-- With segment 63 disabled no enabled segment is at the rail. -/
theorem keyed_rail (l : Bool) : ¬someAtTopRail (keyed false l) := by
  rintro ⟨n, -, g, x, hg, he, -⟩
  have : g = Segment.initial := by
    have h := List.mem_of_getElem? hg
    simpa [keyed, Segment.initial] using h
  rw [this] at he
  exact absurd he (by decide)

theorem witness_LockoutClearReleasesTheLockout :
    ((inState .capture).Serving ∧ (inState .capture).stroke.state.idle = false) ∧
    (State.reset.Serving ∧ State.reset.stroke.state.idle = true ∧ ¬maintActive State.reset) ∧
    ((keyed true true).Serving ∧ maintActive (keyed true true) ∧ someAtTopRail (keyed true true)) ∧
    ((keyed false true).Serving ∧ maintActive (keyed false true) ∧
      ¬someAtTopRail (keyed false true) ∧ (keyed false true).guard.lockout.latched = true) ∧
    (maintActive (keyed false false) ∧ ¬someAtTopRail (keyed false false) ∧
      (keyed false false).guard.lockout.latched = false) := by
  refine ⟨⟨serving_of rfl rfl rfl rfl rfl, rfl⟩, ⟨serving_reset, rfl, ?_⟩,
    ⟨serving_of rfl rfl rfl rfl rfl, keyed_maint _ _,
      ⟨63, by decide, _, _, rfl, rfl, rfl, rfl⟩⟩,
    ⟨serving_of rfl rfl rfl rfl rfl, keyed_maint _ _, keyed_rail _, rfl⟩,
    keyed_maint _ _, keyed_rail _, rfl⟩
  rintro ⟨l, h, -⟩
  exact absurd h (by rw [show State.reset.lines.lines.find? _ = none from rfl]; simp)

theorem witness_MapBeginEmptiesTheStagingList : State.reset.Serving := serving_reset

/-- A MAP_ADD record of pin `n`. -/
def pinWire (n : BitVec 16) : PinWire := { pin := n, segment := 63, engage := 1023, cls := 7 }

/-- The part with `n` records staged. -/
def staged (n : Nat) : State :=
  { State.reset with map := { MapUnit.initial with staging := List.replicate n (pinAt 1 0 0 0) } }

/-- Their count. -/
theorem staged_length (n : Nat) : (staged n).map.staging.length = n := List.length_replicate ..

theorem witness_MapAddTakesAFrameWhole :
    (staged 2048).Serving ∧ (staged 2008).Serving ∧
    1 ≤ (List.replicate 40 (pinWire 4095)).length ∧ (List.replicate 40 (pinWire 4095)).length ≤ 40 ∧
    (∀ p ∈ List.replicate 40 (pinWire 4095), pinInRange p) ∧
    2048 < (staged 2048).map.staging.length + [pinWire 1].length ∧
    (staged 2008).map.staging.length + (List.replicate 40 (pinWire 4095)).length ≤ 2048 ∧
    ([pinWire 1, pinWire 4096][1]? = some (pinWire 4096) ∧ ¬pinInRange (pinWire 4096) ∧
      ∀ q ∈ [pinWire 1, pinWire 4096].take 1, pinInRange q) := by
  refine ⟨serving_of rfl rfl rfl rfl rfl, serving_of rfl rfl rfl rfl rfl, by decide, by decide,
    fun p h => ?_, ?_, ?_, rfl, by unfold pinInRange; decide, fun q h => ?_⟩
  · rw [List.eq_of_mem_replicate h]; unfold pinInRange; decide
  · rw [staged_length]; simp
  · rw [staged_length, List.length_replicate]
  · rw [List.mem_singleton.mp h]; unfold pinInRange; decide

/-- The part with a commit running, its request in the buffer. -/
def committing (c : Commit) : State :=
  { holding .mapCommit with map := { MapUnit.initial with commit := some c } }

/-- A commit of one record of class 2. -/
def oneRecord : Commit := { list := [pinAt 1 63 1023 2], defined := definedClasses true }

/-- It passes. -/
theorem oneRecord_passes : commitPasses oneRecord := by
  refine ⟨by decide, by decide, by decide, by decide, fun a b => ?_, fun a => ?_⟩
  · exact Nat.le_trans (List.length_filter_le _ _) (by decide)
  · exact Nat.le_trans (List.length_filter_le _ _) (by decide)

/-- `n` records of segment 0 from pin `first`, at one engage station. -/
def cohortOf (n first engage : Nat) : List PinRecord :=
  (List.range n).map fun k => pinAt (first + k) 0 engage 2

/-- 65 records of one segment in cohorts of 32, 32 and 1. -/
def loaded : List PinRecord := cohortOf 32 1 0 ++ cohortOf 32 33 1 ++ cohortOf 1 65 2

/-- No cohort of it holds more than 32. -/
theorem loaded_cohorts (a b : Nat) :
    (loaded.filter fun q => q.segment = a ∧ q.engage = b).length ≤ 32 := by
  have h : (loaded.filter fun q => q.segment = a ∧ q.engage = b).length ≤
      (loaded.filter fun q => q.engage = b).length := by
    rw [← List.countP_eq_length_filter, ← List.countP_eq_length_filter]
    exact List.countP_mono_left fun q _ hq => by
      simp only [decide_eq_true_eq] at hq ⊢; exact hq.2
  refine Nat.le_trans h ?_
  rcases Nat.lt_or_ge b 3 with hb | hb
  · have : ∀ b < 3, (loaded.filter fun q => q.engage = b).length ≤ 32 := by decide +kernel
    exact this b hb
  · have all : ∀ q ∈ loaded, q.engage < 3 := by decide +kernel
    rw [List.filter_eq_nil_iff.mpr fun q hq he => by
      have := all q hq; simp only [decide_eq_true_eq] at he; omega]
    decide

theorem witness_CommitRefusals :
    (∃ i, (Commit.refusal { list := stagedMap 5, defined := definedClasses true }) =
      some (.mixedCohort, i)) ∧
    ((stagedMap 5).map PinRecord.pin).Nodup ∧
    (∀ q ∈ stagedMap 5, (definedClasses true)[q.cls]? = some true) ∧
    ((stagedMap 5)[5]? = some (pinAt 104 12 30 5) ∧
      (∃ q ∈ (stagedMap 5).take 5, q.segment = 12 ∧ q.engage = 30 ∧ q.cls ≠ 5) ∧
      ∀ a ∈ (stagedMap 5).take 5, ∀ b ∈ (stagedMap 5).take 5, a.segment = b.segment →
        a.engage = b.engage → a.cls = b.cls) ∧
    (((cohortOf 33 1 0).map PinRecord.pin).Nodup ∧ (∀ q ∈ cohortOf 33 1 0, q.cls = 2) ∧
      (cohortOf 33 1 0)[32]? = some (pinAt 33 0 0 2) ∧
      (((cohortOf 33 1 0).take 32).filter fun q => q.segment = 0 ∧ q.engage = 0).length = 32 ∧
      ∀ a b : Nat,
        (((cohortOf 33 1 0).take 32).filter fun q => q.segment = a ∧ q.engage = b).length ≤ 32) ∧
    ((loaded.map PinRecord.pin).Nodup ∧ (∀ q ∈ loaded, q.cls = 2) ∧
      (∀ a b : Nat, (loaded.filter fun q => q.segment = a ∧ q.engage = b).length ≤ 32) ∧
      loaded[64]? = some (pinAt 65 0 2 2) ∧
      ((loaded.take 64).filter fun q => q.segment = 0).length = 64 ∧
      ∀ a : Nat, ((loaded.take 64).filter fun q => q.segment = a).length ≤ 64) :=
  ⟨⟨5, by decide⟩, by decide, by decide,
    ⟨rfl, ⟨pinAt 103 12 30 2, by decide, rfl, rfl, by decide⟩, by decide⟩,
    ⟨by decide +kernel, by decide +kernel, by decide +kernel, by decide +kernel,
      fun _ _ => List.length_filter_le _ _⟩,
    by decide +kernel, by decide +kernel, loaded_cohorts, by decide +kernel, by decide +kernel,
    fun _ => List.length_filter_le _ _⟩

/-- The same commit with another buffer, and with no place for its reply. -/
theorem witness_OrphanedCommit :
    (let s : State := { committing oneRecord with link := State.reset.link };
      s.Ready ∧ s.map.commit = some oneRecord ∧ s.link.buffer ≠ .mapCommit) ∧
    (let s : State := { committing oneRecord with
        link := { crowded.link with buffer := .mapCommit } };
      s.Ready ∧ s.map.commit = some oneRecord ∧ s.link.buffer = .mapCommit ∧
        ¬s.link.replies.length < 4) ∧
    (Commit.refusal { list := [], defined := [] }) = some (.empty, 0) :=
  ⟨⟨ready_of rfl rfl rfl rfl, rfl, by decide⟩,
    ⟨ready_sending rfl rfl rfl, rfl, rfl, by decide⟩, by decide⟩

theorem witness_CommitInstallsTheSortedMap :
    ((inState .evaluate).Serving ∧ (inState .evaluate).stroke.state.idle = false) ∧
    (let s : State := { State.reset with map := { MapUnit.initial with commit := some oneRecord } };
      s.Serving ∧ s.stroke.state.idle = true ∧ s.map.commit.isSome = true) ∧
    (State.reset.Serving ∧ State.reset.stroke.state.idle = true ∧ State.reset.map.commit = none) ∧
    ((committing oneRecord).Ready ∧ (committing oneRecord).map.commit = some oneRecord ∧
      (committing oneRecord).link.buffer = .mapCommit ∧
      (committing oneRecord).link.replies.length < 4 ∧ commitPasses oneRecord) ∧
    ¬commitPasses { list := [], defined := [] } ∧
    (oneRecord.list ≠ [] ∧ [pinAt 1 0 0 0, pinAt 1 1 1 1][1]? = some (pinAt 1 1 1 1) ∧
      (∃ q ∈ [pinAt 1 0 0 0, pinAt 1 1 1 1].take 1, q.pin = (pinAt 1 1 1 1).pin) ∧
      (([pinAt 1 0 0 0, pinAt 1 1 1 1].take 1).map PinRecord.pin).Nodup) ∧
    (([pinAt 1 0 0 2, pinAt 2 1 1 7].map PinRecord.pin).Nodup ∧
      (definedClasses true)[(pinAt 2 1 1 7).cls]? ≠ some true ∧
      ∀ q ∈ [pinAt 1 0 0 2, pinAt 2 1 1 7].take 1, (definedClasses true)[q.cls]? = some true) :=
  ⟨⟨serving_of rfl rfl rfl rfl rfl, rfl⟩, ⟨serving_of rfl rfl rfl rfl rfl, rfl, rfl⟩,
    ⟨serving_reset, rfl, rfl⟩,
    ⟨ready_of rfl rfl rfl rfl, rfl, rfl, by decide, oneRecord_passes⟩, fun h => h.1 rfl,
    ⟨by decide, rfl, ⟨_, List.mem_singleton.mpr rfl, rfl⟩, by decide⟩, by decide, by decide,
    by decide⟩

/-- A SET_CLASS with two fields to vary. -/
def classWire (number depth : Byte) : ClassWire :=
  { number := number, absent := 0, low := 0, high := 32767, lead := 15, span := 64, depth := depth }

/-- The part with class 7 defined as that request defines it, by its depth. -/
def classed (depth : Nat) : State :=
  { State.reset with
    map := { MapUnit.initial with
      classes := List.replicate 7 none ++
        [some { absent := 0, low := 0, high := 32767, lead := 15, span := 64, depth := depth }] } }

theorem witness_MapsAndClassesAreReadAndDefined :
    (State.reset.Serving ∧ 2047 < (2048#16).toNat ∧ 40 < (41#8).toNat ∧ (2047#16).toNat ≤ 2047 ∧
      1 ≤ (1#8).toNat ∧ (40#8).toNat ≤ 40 ∧ 7 < (8#8).toNat) ∧
    ((7#8).toNat ≤ 7 ∧ State.reset.map.classes.getD (7#8).toNat none = none) ∧
    ((classed 8).Serving ∧ ∃ c, (classed 8).map.classes.getD (7#8).toNat none = some c) ∧
    ((inState .ready).Serving ∧ (inState .ready).stroke.state.idle = false) ∧
    (∃ p, (classConditions (classWire 8 1))[0]? = some p ∧ ¬p) ∧
    (∃ p, (classConditions (classWire 7 9))[6]? = some p ∧ ¬p ∧
      ∀ q ∈ (classConditions (classWire 7 9)).take 6, q) ∧
    ((∀ p ∈ classConditions (classWire 7 8), p) ∧
      (classed 8).map.classes.getD (classWire 7 8).number.toNat none =
        some { absent := 0, low := 0, high := 32767, lead := 15, span := 64, depth := 8 } ∧
      (classed 1).map.classes.getD (classWire 7 8).number.toNat none ≠
        some { absent := 0, low := 0, high := 32767, lead := 15, span := 64, depth := 8 }) := by
  refine ⟨⟨serving_reset, by decide⟩, ⟨by decide, rfl⟩, ⟨serving_of rfl rfl rfl rfl rfl, _, rfl⟩,
    ⟨serving_of rfl rfl rfl rfl rfl, rfl⟩, ⟨_, rfl, by decide⟩, ⟨_, rfl, by decide, ?_⟩, ?_, rfl,
    by decide⟩
  · intro q h
    simp only [classConditions, List.take_succ_cons, List.take_zero, List.mem_cons,
      List.not_mem_nil, or_false] at h
    rcases h with h | h | h | h | h | h <;> subst h <;> decide
  · intro q h
    simp only [classConditions, List.mem_cons, List.not_mem_nil, or_false] at h
    rcases h with h | h | h | h | h | h | h <;> subst h <;> decide

theorem witness_ProfileReadReturnsTheWindow :
    State.reset.Serving ∧ 64 < (65#8).toNat ∧ 1023 < (1024#16).toNat ∧ (0#8).toNat = 0 ∧
    80 < (81#8).toNat ∧ (64#8).toNat ≤ 64 ∧ (1023#16).toNat ≤ 1023 ∧ 1 ≤ (1#8).toNat ∧
    (80#8).toNat ≤ 80 := ⟨serving_reset, by decide⟩

/-- The part with the results of the worked evaluation valid. -/
def judged : State :=
  let results := evaluateResults judgedMap workedProfile (workedInputs 55 .seatedOk)
  { State.reset with
    engine :=
      { run := none, work := WorkTable.empty, results := results, valid := true
        summary := some (evaluateSummary results workedProfile (workedInputs 55 .seatedOk)) } }

/-- The part in EVALUATE with the engine running. -/
def evaluating : State :=
  { inState .evaluate with
    engine := { State.reset.engine with run := some (workedInputs 55 .seatedOk) } }

theorem witness_ResultsAreReadWhileValid :
    (evaluating.Serving ∧ evaluating.engine.run.isSome = true) ∧
    (State.reset.Serving ∧ State.reset.engine.run = none ∧ State.reset.engine.valid = false) ∧
    (judged.Serving ∧ judged.engine.run = none ∧ judged.engine.valid = true ∧
      ∃ m, judged.engine.summary = some m) ∧
    2047 < (2048#16).toNat ∧ 24 < (25#8).toNat ∧ (2047#16).toNat ≤ 2047 ∧ 1 ≤ (1#8).toNat ∧
    (24#8).toNat ≤ 24 :=
  ⟨⟨serving_of rfl rfl rfl rfl rfl, rfl⟩, ⟨serving_reset, rfl, rfl⟩,
    ⟨serving_of rfl rfl rfl rfl rfl, rfl, rfl, _, rfl⟩, by decide⟩

/-- Eight line records, the first and the last as given, the others GENERAL_IN active low. -/
def lineWires (first last : LineWire) : List LineWire :=
  [first] ++ List.replicate 6 { function := 0, active := 0 } ++ [last]

/-- A line record. -/
def lineWire (function active : Byte) : LineWire := { function := function, active := active }

/-- Codes 0 to 8 and 0 to 1, with no function twice, offend nowhere. -/
theorem lines_accepted (n : Nat) : ¬lineOffends (lineWires (lineWire 8 1) (lineWire 3 0)) n := by
  rintro ⟨l, hl, h⟩
  rcases n with _ | _ | _ | _ | _ | _ | _ | _ | n
  all_goals first
    | (have hl : _ = l := Option.some.inj hl
       subst hl
       rcases h with h | ⟨-, h, k, hk, he⟩
       · revert h; decide
       · revert he; revert k; revert h; decide)
    | (simp [lineWires, List.replicate] at hl)

/-- HOME on line 0 alone offends nowhere. -/
theorem home_accepted (active : Bool) (n : Nat) :
    ¬lineOffends (lineWires (lineWire 2 (if active then 1 else 0)) (lineWire 0 0)) n := by
  rintro ⟨l, hl, h⟩
  cases active <;> rcases n with _ | _ | _ | _ | _ | _ | _ | _ | n
  all_goals first
    | (have hl : _ = l := Option.some.inj hl
       subst hl
       rcases h with h | ⟨-, h, k, hk, he⟩
       · revert h; decide
       · revert he; revert k; revert h; decide)
    | (simp [lineWires, List.replicate] at hl)

/-- HOME assigned to line 0, active high or low, its filter low. -/
def assigned (high : Bool) (s : State) : State :=
  { s with lines := { s.lines with lines := { Line.initial with
      function := .home, active := if high then .high else .low } :: List.replicate 7 Line.initial } }

theorem witness_SetLinesWritesTheTable :
    ((inState .hold).Serving ∧ (inState .hold).stroke.state.idle = false) ∧
    (lineWires (lineWire 8 1) (lineWire 3 0)).length = 8 ∧
    lineOffends (lineWires (lineWire 9 0) (lineWire 0 0)) 0 ∧
    lineOffends (lineWires (lineWire 8 1) (lineWire 8 1)) 7 ∧
    (State.reset.Serving ∧ State.reset.lines.lines.length = 8 ∧
      State.reset.stroke.state.idle = true ∧
      ∀ n < 8, ¬lineOffends (lineWires (lineWire 8 1) (lineWire 3 0)) n) ∧
    (∀ (active : Bool) (n : Nat), ¬lineOffends (lineWires (lineWire 2 (if active then 1 else 0)) (lineWire 0 0)) n) ∧
    (∀ r, let s := calibrating r [];
      let t := assigned true s;
      s.Serving ∧ s.lines.lines.length = 8 ∧ s.stroke.state.idle = true ∧ s.home = true ∧
        t.home = false ∧ s.cal.run = some r) ∧
    (let s := homeAt .disarmed;
      s.Serving ∧ s.home = true ∧ (assigned true s).home = false ∧ s.cal.run = none) ∧
    (State.reset.home = false ∧ (assigned false State.reset).home = true) :=
  ⟨⟨serving_of rfl rfl rfl rfl rfl, rfl⟩, rfl, ⟨_, rfl, .inl (by decide)⟩,
    ⟨_, rfl, .inr ⟨by decide, by decide, by decide⟩⟩,
    ⟨serving_reset, rfl, rfl, fun n _ => lines_accepted n⟩, home_accepted,
    fun _ => ⟨serving_of rfl rfl rfl rfl rfl, rfl, rfl, rfl, rfl, rfl⟩,
    ⟨serving_of rfl rfl rfl rfl rfl, rfl, rfl, rfl⟩, rfl, rfl⟩

theorem witness_LinesAreWrittenAndRead : State.reset.Serving := serving_reset

/-! ### Witnesses: halts, lockouts, the ram, timers, the stop line -/

theorem witness_TripsHaltTheStroke (d : Due) :
    (let s := owing (inState .capture) d;
      s.held = false ∧ s.link.fed ∧ s.home = false ∧ s.due = [d] ∧
        s.stroke.state.descending = true) ∧
    (let s := owing (inState .hold) d;
      s.held = false ∧ s.link.fed ∧ s.home = false ∧ s.due = [d] ∧ s.stroke.state = .hold) :=
  ⟨⟨rfl, fun _ => ⟨rfl, rfl⟩, rfl, rfl, rfl⟩, rfl, fun _ => ⟨rfl, rfl⟩, rfl, rfl, rfl⟩

/-- The part in a state, an event due, and the lockout latched or not. -/
def struck (k : StrokeState) (latched : Bool) : State :=
  { owing (inState k) (.overrange 63) with
    guard := { State.reset.guard with lockout := { Lockout.initial with latched := latched } } }

theorem witness_RailEventsLockOutAndOpen (k : StrokeState) (latched : Bool) :
    (let s := struck k latched;
      s.held = false ∧ s.due = [.overrange (63 : Fin 64).val] ∧ s.link.fed ∧ s.home = false ∧
        s.guard.lockout.latched = latched ∧ s.stroke.state = k) ∧
    ({ struck k latched with pos := (homeAt k).pos } : State).home = true ∧
    (let s := owing (inState k) (.bottomRail 63);
      s.held = false ∧ s.due = [.bottomRail (63 : Fin 64).val] ∧ s.link.fed ∧
        s.acq.segs[(63 : Fin 64).val]? = some Segment.initial) :=
  ⟨⟨rfl, rfl, fun _ => ⟨rfl, rfl⟩, rfl, rfl, rfl⟩, rfl, rfl, rfl, fun _ => ⟨rfl, rfl⟩, rfl⟩

/-- The part in a state at counter `p`, referenced. -/
def placed (k : StrokeState) (p : Int) : State :=
  { inState k with pos := { State.reset.pos with referenced := true, counter := p } }

theorem witness_CountMovesTheCounter :
    (State.reset.pos.encA = .low ∧ State.reset.pos.encB = .low ∧
      State.reset.pos.direction = .aLeadsUp) ∧
    ((placed .approach 99998).Ready ∧ (placed .approach 99998).pos.beyond .a = false ∧
      ((placed .approach 99998).counted .a).home = (placed .approach 99998).home ∧
      ((placed .approach 99998).counted .a).pos.counter = 99999 ∧
      (placed .approach 99998).stroke.captureOpen = false) ∧
    ((capturing .capture 1 100000).Ready ∧ (capturing .capture 1 100000).pos.beyond .a = false ∧
      ((capturing .capture 1 100000).counted .a).pos.counter <
        (100000 + (capturing .capture 1 100000).pos.high * 10 : Nat)) :=
  ⟨⟨rfl, rfl, rfl⟩, ⟨ready_of rfl rfl rfl rfl, rfl, rfl, rfl, rfl⟩,
    ready_of rfl rfl rfl rfl, rfl, by decide⟩

theorem witness_StrokeStartsWhenTheRamLeavesHome :
    let s := placed .ready 2000;
    s.Ready ∧ s.pos.beyond .a = false ∧ s.stroke.state = .ready ∧ s.home = true ∧
      (s.counted .a).home = false ∧ s.cal.run = none ∧ s.guard.sensed = .high ∧ s.guardOk = true ∧
      s.pos.referenced = true ∧ s.stroke.captureOpen = false :=
  ⟨ready_of rfl rfl rfl rfl, rfl, rfl, rfl, rfl, rfl, rfl, rfl, rfl, rfl⟩

theorem witness_CaptureEntryLatchesStationZero :
    let s := placed .approach 99999;
    s.Ready ∧ s.pos.beyond .a = false ∧ s.stroke.state = .approach ∧
      (s.counted .a).home = s.home ∧ s.guard.counting = false ∧
      (s.stroke.params.captureStart : Int) ≤ (s.counted .a).pos.counter ∧
      (s.counted .a).pos.counter < s.stroke.params.endPosition ∧
      2 ≤ s.stroke.params.maxStations ∧ 1 ≤ s.stroke.params.span ∧ s.stroke.params.mode = .force :=
  ⟨ready_of rfl rfl rfl rfl, rfl, rfl, rfl, rfl, by decide, by decide, by decide, by decide, rfl⟩

/-- The part in CAPTURE about to latch station 1 at `p` + 1, by the mode and the end position. -/
def latching (mode : SeatingMode) (endPosition : Nat) (p : Int) : State :=
  { capturing .capture 1 p with
    stroke := { (capturing .capture 1 p).stroke with
      params := { Params.initial with
        mode := mode, endPosition := endPosition, seatPosition := 100010 } } }

/-- By force nothing is seated with no record to rise from. -/
theorem latching_unseated (e : Nat) (r : Station) (hr : r.index = 1) :
    ¬((latching .force e 100009).counted .a).latched.seatingMet r := by
  rintro (⟨-, h, -⟩ | ⟨h, -⟩)
  · exact absurd h (by rw [hr]; show ¬(4 ≤ 1); decide)
  · exact h rfl

/-- A station latched after segment 1 was disabled records nothing of it (03 R50, 08 R152). -/
theorem test_station_of_a_disabled_segment :
    let x (f : Int) : Sample := { raw := some f, force := f, sat := true, settling := false }
    let r := stationRecord { State.reset with
      acq := { State.reset.acq with
        segs := [{ Segment.initial with enabled := true }, Segment.initial]
        published := some { samples := [x 5, x 7], total := 12 } } }
    r.forces = [5, 0] ∧ r.sats = [true, false] ∧ r.total = 5 := by decide

theorem witness_LatchSeatsOrEndsTheTravel (mode : SeatingMode) (e : Nat) :
    (let s := latching mode e 100009;
      s.Ready ∧ s.pos.beyond .a = false ∧ s.stroke.state = .capture ∧ s.stroke.captureOpen = true ∧
        s.home = false ∧ (s.counted .a).home = false ∧ s.guard.counting = false ∧
        s.pos.copies = some s.stroke.params.copies ∧
        s.pos.high + 1 < s.stroke.params.maxStations ∧
        ((s.stroke.params.captureStart + s.pos.high * s.stroke.params.pitch : Nat) : Int) ≤
          (s.counted .a).pos.counter) ∧
    (¬((latching .force e 100009).counted .a).latched.seatingMet
        ((latching .force e 100009).counted .a).stationNow ∧
      ((latching .force 100011 100009).counted .a).pos.counter < (100011 : Nat) ∧
      ((100010 : Nat) : Int) ≤ ((latching .force 100010 100009).counted .a).pos.counter) ∧
    (((latching .position e 100009).counted .a).latched.seatingMet
        ((latching .position e 100009).counted .a).stationNow ∧
      (latching .position e 100009).stroke.params.dwell ≠ 0) :=
  ⟨⟨ready_of rfl rfl rfl rfl, rfl, rfl, rfl, rfl, rfl, rfl, rfl, by show 2 < 1024; decide,
      by show (((100000 + 1 * 10 : Nat) : Int) ≤ 100010); decide⟩,
    ⟨latching_unseated e _ rfl, by decide, by decide⟩,
    .inr ⟨by show SeatingMode.position ≠ .force; decide,
      by show (((100010 : Nat) : Int) ≤ 100010); decide⟩,
    by show 200 ≠ 0; decide⟩

/-- The same latch as the last one its parameters allow, or with a dwell of 0. -/
theorem witness_LatchAtTheLimit (mode : SeatingMode) (dwell : Nat) :
    let s : State := { latching mode 150000 100009 with
      stroke := { (latching mode 150000 100009).stroke with
        params := { (latching mode 150000 100009).stroke.params with
          maxStations := 2, dwell := dwell } }
      pos := { (latching mode 150000 100009).pos with
        copies := some { start := 100000, pitch := 10, limit := 2 } } };
    s.Ready ∧ s.pos.beyond .a = false ∧ s.stroke.state = .capture ∧ s.stroke.captureOpen = true ∧
      s.home = false ∧ (s.counted .a).home = false ∧ s.guard.counting = false ∧
      s.pos.copies = some s.stroke.params.copies ∧
      s.pos.high + 1 = s.stroke.params.maxStations ∧ s.stroke.params.dwell = dwell ∧
      (mode = .force → ¬(s.counted .a).latched.captureEnded.seatingMet (s.counted .a).stationNow) ∧
      (mode = .position →
        (s.counted .a).latched.captureEnded.seatingMet (s.counted .a).stationNow) := by
  refine ⟨ready_of rfl rfl rfl rfl, rfl, rfl, rfl, rfl, rfl, rfl, rfl, rfl, rfl, ?_, ?_⟩
  · rintro rfl (⟨-, h, -⟩ | ⟨h, -⟩)
    · exact absurd h (by show ¬(4 ≤ 1); decide)
    · exact h rfl
  · rintro rfl
    exact .inr ⟨by show SeatingMode.position ≠ .force; decide,
      by show (((100010 : Nat) : Int) ≤ 100010); decide⟩

theorem witness_OvertravelIsCountedAndLocksOut (k : StrokeState) (latched home : Bool) :
    (let s : State := { capturing .hold 1 100009 with
        guard := { State.reset.guard with counting := true, overtravel := 1023 } };
      s.Ready ∧ s.pos.beyond .a = false ∧ s.stroke.state = .hold ∧ s.stroke.captureOpen = true ∧
        s.home = false ∧ (s.counted .a).home = false ∧ s.guard.counting = true ∧
        s.guard.overtravel < 1024 ∧ s.pos.copies = some s.stroke.params.copies ∧
        s.pos.high + 1 < s.stroke.params.maxStations ∧
        ((s.stroke.params.captureStart + s.pos.high * s.stroke.params.pitch : Nat) : Int) ≤
          (s.counted .a).pos.counter) ∧
    (let s : State := { struck k latched with
        due := [.overtravel], pos := if home then (homeAt k).pos else State.reset.pos };
      s.held = false ∧ s.due = [.overtravel] ∧ s.link.fed ∧ s.guard.lockout.latched = latched ∧
        s.stroke.state = k ∧ s.home = home) := by
  refine ⟨⟨ready_of rfl rfl rfl rfl, rfl, rfl, rfl, rfl, rfl, rfl, by decide, rfl, by decide,
    by decide⟩, rfl, rfl, fun _ => ⟨rfl, rfl⟩, rfl, rfl, ?_⟩
  cases home <;> rfl

theorem witness_HomeEndsTheStroke :
    let s := placed .retract 2001;
    s.Ready ∧ s.pos.beyond .b = false ∧ s.stroke.state.returning = true ∧ s.home = false ∧
      (s.counted .b).home = true ∧ s.guard.reasons.resetHold = false :=
  ⟨ready_of rfl rfl rfl rfl, rfl, rfl, rfl, rfl, rfl⟩

theorem witness_EncoderFaultsAndReferencePulses :
    (∀ k, (inState k).Ready ∧ (inState k).homeAssigned = false ∧ (inState k).home = false ∧
      (inState k).stroke.state = k) ∧
    (∀ k, (homeAt k).Ready ∧ (homeAt k).homeAssigned = false ∧ (homeAt k).home = true ∧
      (homeAt k).stroke.state = k ∧ (homeAt k).cal.run = none ∧ (homeAt k).guard.sensed = .high ∧
      (homeAt k).guardOk = true) ∧
    (∀ s : State, s.faults (.encoderFault .both) 1 { s.pos with
      referenced := false, encA := otherLevel s.pos.encA, encB := otherLevel s.pos.encB }) ∧
    (let s := placed .capture 8388607;
      s.pos.beyond .a = true ∧ s.Ready ∧ s.homeAssigned = false ∧ s.home = false ∧
        s.faults (.encoderCount .a) 2 { s.pos with
          referenced := false, encA := otherLevel s.pos.encA } ∧
        s.faults (.encoderFault (.one .a)) 2 { s.pos with
          referenced := false, encA := otherLevel s.pos.encA }) ∧
    (let s := calibrating (operation .tare .average 0) [];
      s.Ready ∧ s.stroke.state.guarded = false ∧ s.stroke.state ≠ .ready ∧ s.home = true ∧
        s.cal.run = some (operation .tare .average 0)) ∧
    State.reset.pos.beyond .a = false ∧
    (let s := placed .hold 2;
      s.Ready ∧ s.pos.referenced = true ∧ -2 ≤ s.pos.counter ∧ s.pos.counter ≤ 2 ∧
        ({ s with pos := { s.pos with counter := 0, referenced := true, encZ := .high } } : State).home
          = s.home) ∧
    (let s := placed .hold (-3);
      s.Ready ∧ s.pos.referenced = true ∧ s.pos.counter < -2 ∧
        ({ s with pos := { s.pos with counter := 0, referenced := true, encZ := .high } } : State).home
          = s.home) ∧
    (∀ k high, let s := assigned high (inState k);
      s.Ready ∧ s.homeAssigned = true ∧ s.stroke.state = k ∧ s.home = !high) ∧
    (∀ k, let s := placed k 2001;
      s.Ready ∧ s.stroke.state = k ∧ s.pos.referenced = true ∧ 2 < s.pos.counter ∧ s.home = false ∧
        ({ s with pos := { s.pos with counter := 0, referenced := true, encZ := .high } } : State).home
          = true) :=
  ⟨fun _ => ⟨ready_of rfl rfl rfl rfl, rfl, rfl, rfl⟩,
    fun _ => ⟨ready_of rfl rfl rfl rfl, rfl, rfl, rfl, rfl, rfl, rfl⟩,
    fun _ => .inl ⟨rfl, rfl, rfl⟩,
    ⟨by decide, ready_of rfl rfl rfl rfl, rfl, rfl, .inr ⟨.a, .inl rfl, by decide, rfl, rfl⟩,
      .inr ⟨.a, .inr rfl, by decide, rfl, rfl⟩⟩,
    ⟨ready_of rfl rfl rfl rfl, rfl, by decide, rfl, rfl⟩, by decide,
    ⟨ready_of rfl rfl rfl rfl, rfl, by decide, by decide, rfl⟩,
    ⟨ready_of rfl rfl rfl rfl, rfl, by decide, rfl⟩,
    fun _ high => by cases high <;> exact ⟨ready_of rfl rfl rfl rfl, rfl, rfl, rfl⟩,
    fun _ => ⟨ready_of rfl rfl rfl rfl, rfl, rfl, by show (2 : Int) < 2001; decide, rfl, rfl⟩⟩

theorem witness_TimersExpireByState (k : StrokeState) :
    (State.reset.Ready ∧ State.reset.stroke.state ≠ .hold ∧ State.reset.stroke.quiet ≠ .running) ∧
    (let s : State := { capturing .hold 1 100000 with
        stroke := { (capturing .hold 1 100000).stroke with dwell := some 200 } };
      s.Ready ∧ s.stroke.state = .hold ∧ s.stroke.dwell = some 200 ∧ s.home = false ∧
        s.stroke.captureOpen = true) ∧
    (let s : State := { homeAt .hold with
        stroke := { (inState .hold).stroke with dwell := some 200, quiet := .running } };
      s.Ready ∧ s.stroke.state = .hold ∧ s.stroke.dwell.isSome = true ∧ s.home = true ∧
        s.stroke.quiet = .running ∧ s.stroke.captureOpen = false) ∧
    ((capturing k 1 100000).Ready ∧ (capturing k 1 100000).stroke.quiet = .running ∧
      (capturing k 1 100000).stroke.state = k ∧ (capturing k 1 100000).stroke.captureOpen = true) :=
  ⟨⟨serving_reset.toReady, by decide, by decide⟩,
    ⟨ready_of rfl rfl rfl rfl, rfl, rfl, rfl, rfl⟩, ⟨ready_of rfl rfl rfl rfl, rfl, rfl, rfl, rfl, rfl⟩,
    ready_of rfl rfl rfl rfl, rfl, rfl, rfl⟩

theorem witness_EvaluationCompletes :
    evaluating.Ready ∧ evaluating.engine.run = some (workedInputs 55 .seatedOk) ∧
    evaluating.pending = [] ∧
    evaluating.engine.work.records <+:
      evaluateResults evaluating.map evaluating.profile (workedInputs 55 .seatedOk) ∧
    (∃ r, (evaluateResults judgedMap workedProfile (workedInputs 55 .seatedOk))[0]? = some r) ∧
    (let taken := workedProfile.records.take 56;
      taken[0]? = some (workedStation 0) ∧ ∀ y ∈ taken, y.total ≤ (workedStation 0).total) :=
  ⟨ready_of rfl rfl rfl rfl, rfl, rfl, List.nil_prefix, ⟨_, rfl⟩, by decide +kernel,
    by decide +kernel⟩

/-- An accepted ARM finds a commit left running by a link reset ended; a refused one changes nothing, and
no commit ends in EVALUATE (06 R112, R113, 02 R26). -/
theorem test_orphaned_commit_and_arm :
    let s : State := { State.reset with map := { MapUnit.initial with commit := some oneRecord } }
    ((after .arm (orphaned oneRecord)).map.active, (after .arm (orphaned oneRecord)).map.commit,
      (after .arm (orphaned oneRecord)).stroke.state) = (oneRecord.list, none, .ready) ∧
      (after .arm s).map = s.map ∧
      (after .mapCommitCompletion { s with stroke := (inState .evaluate).stroke }).map.active = [] := by
  decide +kernel

/-- A SNAPSHOT reply and the SEGMENT_EVENT of the same close, with a free transmitter: behind the due step
the reply waits for the report, answered at once it goes first (10 R184). -/
theorem test_snapshot_tie :
    let s := owing (holding .snapshot) (.bottomRail 5)
    let behind := settle (s.withDue (s.due ++ [.snapshotReply]))
    let ahead := settle (transmit true (answerSnapshot s))
    let report := segmentEvent 5 s.stroke.number
    s.snapshotTies = true ∧
      (behind.link.sending = some (.report report) ∧ behind.link.replies = [snapshotOf s]) ∧
      (ahead.link.sending = some (.reply (snapshotOf s)) ∧ ahead.link.reports = [report]) ∧
      (behind.link.buffer, ahead.link.buffer) = (.empty, .empty) := by decide +kernel

/-- A character of the start marker: start bit low, data least significant first, stop bit high
(10 R176); the level after the frame is high, and a low stop bit gives no byte. -/
theorem test_characters :
    character 0x7E = [.low, .low, .high, .high, .high, .high, .high, .high, .low, .high] ∧
      (∀ b : Byte, characterByte (character b) = some b) ∧
      characterByte ((character 0x7E).dropLast ++ [.low]) = none ∧
      (State.reset.link.txd 0, (sendingOne State.reset).link.txd 0,
        (sendingOne State.reset).link.txd 2530) = (.high, .low, .high) := by decide +kernel

/-- One idle step forms the two records of segment 3, and the next those of segment 12. -/
theorem test_working_table :
    let one := WorkTable.empty.advance judgedMap workedProfile (workedInputs 55 .seatedOk)
    let two := one.advance judgedMap workedProfile (workedInputs 55 .seatedOk)
    one.records.map ResultRecord.pin = [201, 204] ∧
      one.clusters.map Cluster.members = [[41]] ∧
      two.records = evaluateResults judgedMap workedProfile (workedInputs 55 .seatedOk) ∧
      two.clusters.map Cluster.members = [[20], [33, 30]] := by decide +kernel

theorem witness_VerdictsFollowTheShare :
    judgedMap.active[2]? = some (pinAt 101 12 20 2) ∧
    (∃ c, judgedMap.classes.getD (pinAt 101 12 20 2).cls none = some c ∧
      ((pinAt 101 12 20 2).engage : Int) - c.lead ≤ (19 : Nat) ∧
      ((18 : Nat) : Int) < ((pinAt 101 12 20 2).engage : Int) - c.lead) ∧
    (∀ q ∈ judgedMap.active, q.segment = 12 → q.engage = 20 → q.cls = 2) ∧
    judgedMap.active.Pairwise mapOrdered ∧
    (∃ r, (evaluateResults judgedMap workedProfile (workedInputs 19 .seatedOk))[2]? = some r) ∧
    (workedInputs 19 .seatedOk).usable.getD 12 false = true ∧
    ({ workedInputs 19 .seatedOk with usable := [] } : EvalInputs).usable.getD 12 false = false := by
  refine ⟨rfl, ⟨_, rfl, by decide, by decide⟩, by decide, ?_, ⟨_, rfl⟩, rfl, rfl⟩
  unfold mapOrdered
  decide

/-- The cluster of pins 103 to 105 (07, worked evaluation). -/
def workedCluster : Cluster :=
  { segment := 12, members := [33, 30], size := 3, baseLo := 27, baseHi := 28, peakLo := 29
    peakHi := 37 }

theorem witness_ClustersAndSharesFollowTheProfile :
    judgedMap.active.Pairwise mapOrdered ∧
    (∀ p ∈ judgedMap.active, ∀ q ∈ judgedMap.active, p.segment = q.segment → p.engage = q.engage →
      p.cls = q.cls) ∧
    workedCluster ∈ evaluateClusters judgedMap (workedInputs 55 .seatedOk) ∧
    workedProfile.records.length = 55 + 1 ∧ workedCluster.peakLo ≤ (55 : Nat) ∧
    0 ≤ workedCluster.peakHi ∧ workedCluster.peakLo ≤ workedCluster.peakHi := by
  refine ⟨?_, by decide, by decide +kernel, rfl, by decide, by decide, by decide⟩
  unfold mapOrdered
  decide

/-- The part in a state, with STOP_N sensed at a level and the readback timer as given. -/
def lineAt (k : StrokeState) (level : Level) (timer : Timer) (latched : Bool) : State :=
  { inState k with
    guard := { State.reset.guard with
      sensed := level, readback := timer, lockout := { Lockout.initial with latched := latched } } }

theorem witness_StopLineIsSensedAndReadBack (k : StrokeState) (v : Level) (t : Timer) (l : Bool) :
    (lineAt k v t l).Ready ∧ (lineAt k v t l).stroke.state = k ∧
    (lineAt k v t l).guard.sensed = v ∧ (lineAt k v t l).guard.readback = t ∧
    (lineAt k v t l).guard.lockout.latched = l ∧ (lineAt k v t l).home = false ∧
    (lineAt k v t l).guard.reasons.isEmpty = true ∧
    (let s : State := { lineAt k v t l with pos := (homeAt k).pos };
      s.Ready ∧ s.stroke.state = k ∧ s.guard.readback = t ∧ s.guard.lockout.latched = l ∧
        s.home = true) :=
  ⟨ready_of rfl rfl rfl rfl, rfl, rfl, rfl, rfl, rfl, rfl, ready_of rfl rfl rfl rfl, rfl, rfl, rfl,
    rfl⟩

/-- The part in a state, with GUARD on line 7 and active. -/
def guardedAt (k : StrokeState) : State :=
  { inState k with
    lines := { State.reset.lines with
      lines := List.replicate 7 Line.initial ++
        [{ Line.initial with function := .guardInput, filtered := .high }] } }

theorem witness_FilteredChangeIsTaken (k : StrokeState) :
    (guardedAt k).Ready ∧ (guardedAt k).stroke.state = k ∧ (guardedAt k).home = false ∧
    (guardedAt k).guardOk = true ∧
    (∃ l, (guardedAt k).lines.lines[(7 : Fin 8).val]? = some l ∧ l.filtered ≠ .low ∧
      (let t : State := { guardedAt k with
          lines := { (guardedAt k).lines with
            lines := (guardedAt k).lines.lines.set (7 : Fin 8).val { l with filtered := .low } } };
        t.home = (guardedAt k).home ∧ t.guardOk = false)) ∧
    (State.reset.Ready ∧ State.reset.lines.lines[(0 : Fin 8).val]? = some Line.initial) ∧
    (∀ high, let s := assigned high (inState k);
      let l : Line := { Line.initial with
        function := .home, active := if high then .high else .low, filtered := .high };
      let t : State := { s with
        lines := { s.lines with lines := s.lines.lines.set (0 : Fin 8).val l } };
      s.Ready ∧ s.stroke.state = k ∧ s.home = !high ∧ t.home = high ∧ t.guardOk = s.guardOk ∧
        s.guardOk = true ∧ t.homeAssigned = true ∧ s.cal.run = none ∧ s.guard.sensed = .high) :=
  ⟨ready_of rfl rfl rfl rfl, rfl, rfl, rfl, ⟨_, rfl, by decide, rfl, rfl⟩,
    ⟨serving_reset.toReady, rfl⟩, fun high => by
      cases high <;> exact ⟨ready_of rfl rfl rfl rfl, rfl, rfl, rfl, rfl, rfl, rfl, rfl, rfl⟩⟩

theorem witness_AbortHaltsTheStroke (k : StrokeState) :
    ((inState k).Serving ∧ (inState k).stroke.state = k ∧ (inState k).home = false ∧
      (inState k).stroke.secondary = none) ∧
    ((homeAt k).Serving ∧ (homeAt k).stroke.state = k ∧ (homeAt k).home = true) ∧
    (inState k).link.sending = none ∧
    ((sendingOne (homeAt k)).Serving ∧ (sendingOne (homeAt k)).link.sending.isSome = true) :=
  ⟨⟨serving_of rfl rfl rfl rfl rfl, rfl, rfl, rfl⟩, ⟨serving_of rfl rfl rfl rfl rfl, rfl, rfl⟩, rfl,
    serving_of rfl rfl rfl rfl rfl, rfl⟩

/-! ### Witnesses: the whole machine -/

/-- STATUS right after reset is answered, so each invariant has a step to be kept by. -/
theorem answers_status : ∃ t, exec .status State.reset = .next t := ⟨_, rfl⟩

theorem witness_LinkBoundsAreKept :
    State.reset.LinkBounds ∧ ∃ t, exec .status State.reset = .next t :=
  ⟨⟨by decide, by decide, by decide, by decide, by decide, by decide, by decide, by decide,
    .inr fun _ => ⟨rfl, rfl⟩⟩, answers_status⟩

theorem witness_StoreBoundsAreKept :
    (settlingAt 0 .disarmed).StoreBounds ∧
    ∃ t, exec .status (settlingAt 0 .disarmed) = .next t :=
  ⟨storeBounds_settled _, _, rfl⟩

theorem witness_StrokeTiesAreKept :
    State.reset.StrokeTies ∧ ∃ t, step State.reset = .next t :=
  ⟨⟨by decide, by decide, rfl, rfl, by decide, by decide, fun _ => rfl, by decide, by decide,
    by decide, by decide, by decide, by decide, by decide, rfl, by decide, by decide⟩, _, rfl⟩

theorem witness_OnlyAClearReleasesALockout :
    (keyed false true).guard.lockout.latched = true ∧
    (∃ t, exec .lockoutClear (keyed false true) = .next t ∧ t.guard.lockout.latched = false) ∧
    (let s : State := { keyed false true with
        link := { State.reset.link with
          receiver := .check 0x01 [0x19] (some ((crc [0x01, 0x19]).extractLsb' 8 8)) } };
      s.guard.lockout.latched = true ∧
      ∃ t, exec (.byteTaken ((crc [0x01, 0x19]).extractLsb' 0 8)) s = .next t ∧
        t.guard.lockout.latched = false) :=
  ⟨rfl, ⟨_, rfl, by decide +kernel⟩, rfl, _, rfl, by decide +kernel⟩

theorem witness_StrokeNumberChangesOnlyFromReady :
    ∃ t, exec (.encoderCount .a) (placed .ready 2000) = .next t ∧ t.stroke.number = 1 :=
  ⟨_, rfl, by decide +kernel⟩

end Sys2Proof.Tests
end

section
/-! SUPPORT. The bounds of the stores, block by block; every shared operation, every owner of a
request and every event keeps them, and so does every command. -/

namespace Sys2Proof.Machine

/-! ### The bounds as one conjunction

A definition that unfolds to the fields it reads: for an operation that writes none of them, the
bounds before it and after it are one proposition. -/

/-- The acquisition unit's stores have their shapes and ranges (01 R3, R4, R8 to R11). -/
def Acq.Bounded (a : Acq) : Prop :=
  (a.segs.length = 64 ∧ ∀ g ∈ a.segs, g.InRange) ∧ a.settleCount ≤ 8 ∧
    (a.topPairs.length = 64 ∧ ∀ n ∈ a.topPairs, n ≤ 2) ∧
    (a.bottomPairs.length = 64 ∧ ∀ n ∈ a.bottomPairs, n ≤ 2) ∧
    a.latest.InRange ∧ ∀ set, a.published = some set → set.InRange

/-- The guard unit's counts have their shapes and ranges (05 R88, R89, R93, R97). -/
def Guard.Bounded (g : Guard) : Prop :=
  (g.segPersist.length = 64 ∧ ∀ n ∈ g.segPersist, n ≤ 16) ∧ g.totalPersist ≤ 16 ∧
    g.overtravel ≤ 1024 ∧ g.lockout.repeats ≤ 255

/-- The stores of the part have their shapes and ranges, block by block. -/
def State.Bounded (s : State) : Prop :=
  s.acq.Bounded ∧ (-8388608 ≤ s.pos.counter ∧ s.pos.counter ≤ 8388607) ∧ s.guard.Bounded ∧
    s.stroke.secondaryCount ≤ 255 ∧ (s.map.staging.length ≤ 2048 ∧ s.map.classes.length = 8) ∧
    s.lines.lines.length = 8

/-- The block-by-block bounds are those of the claims. -/
theorem storeBounds_iff_bounded (s : State) : s.StoreBounds ↔ s.Bounded := by
  constructor
  · intro h
    exact ⟨⟨⟨h.segments, h.segment⟩, h.settle, ⟨h.topCount, h.top⟩, ⟨h.bottomCount, h.bottom⟩,
      h.latest, h.published⟩, h.counter,
      ⟨⟨h.persistCount, h.persist⟩, h.totalPersist, h.overtravel, h.repeats⟩, h.secondary,
      ⟨h.staging, h.classes⟩, h.lines⟩
  · rintro ⟨⟨⟨segments, segment⟩, settle, ⟨topCount, top⟩, ⟨bottomCount, bottom⟩, latest,
      published⟩, counter, ⟨⟨persistCount, persist⟩, totalPersist, overtravel, repeats⟩, secondary,
      ⟨staging, classes⟩, lines⟩
    exact { segments, segment, settle, topCount, top, bottomCount, bottom, latest, published,
            counter, persistCount, persist, totalPersist, overtravel, repeats, secondary,
            staging, classes, lines }

/-! ### The bounds of one store -/

theorem Acq.Bounded.segs {a : Acq} (h : a.Bounded) :
    a.segs.length = 64 ∧ ∀ g ∈ a.segs, g.InRange := h.1

section blocks

variable {s : State}

theorem State.Bounded.acq (h : s.Bounded) : s.acq.Bounded := h.1

theorem State.Bounded.counter (h : s.Bounded) :
    -8388608 ≤ s.pos.counter ∧ s.pos.counter ≤ 8388607 := h.2.1

theorem State.Bounded.guard (h : s.Bounded) : s.guard.Bounded := h.2.2.1

theorem State.Bounded.secondary (h : s.Bounded) : s.stroke.secondaryCount ≤ 255 := h.2.2.2.1

theorem State.Bounded.staging (h : s.Bounded) : s.map.staging.length ≤ 2048 := h.2.2.2.2.1.1

theorem State.Bounded.classes (h : s.Bounded) : s.map.classes.length = 8 := h.2.2.2.2.1.2

theorem State.Bounded.lines (h : s.Bounded) : s.lines.lines.length = 8 := h.2.2.2.2.2

/-! ### One rule per block that holds a bounded store -/

theorem State.Bounded.onAcq {f : Acq → Acq} (h : s.Bounded) (hf : (f s.acq).Bounded) :
    (s.onAcq f).Bounded := by
  obtain ⟨_, rest⟩ := h
  exact ⟨hf, rest⟩

theorem State.Bounded.onPos {f : Pos → Pos} (h : s.Bounded)
    (hf : -8388608 ≤ (f s.pos).counter ∧ (f s.pos).counter ≤ 8388607) : (s.onPos f).Bounded := by
  obtain ⟨acq, _, rest⟩ := h
  exact ⟨acq, hf, rest⟩

theorem State.Bounded.onGuard {f : Guard → Guard} (h : s.Bounded) (hf : (f s.guard).Bounded) :
    (s.onGuard f).Bounded := by
  obtain ⟨acq, counter, _, rest⟩ := h
  exact ⟨acq, counter, hf, rest⟩

theorem State.Bounded.onStroke {f : Stroke → Stroke} (h : s.Bounded)
    (hf : (f s.stroke).secondaryCount ≤ 255) : (s.onStroke f).Bounded := by
  obtain ⟨acq, counter, guard, _, rest⟩ := h
  exact ⟨acq, counter, guard, hf, rest⟩

theorem State.Bounded.onMap {f : MapUnit → MapUnit} (h : s.Bounded)
    (hf : (f s.map).staging.length ≤ 2048 ∧ (f s.map).classes.length = 8) :
    (s.onMap f).Bounded := by
  obtain ⟨acq, counter, guard, secondary, _, lines⟩ := h
  exact ⟨acq, counter, guard, secondary, hf, lines⟩

theorem State.Bounded.onLines {f : Lines → Lines} (h : s.Bounded)
    (hf : (f s.lines).lines.length = 8) : (s.onLines f).Bounded := by
  obtain ⟨acq, counter, guard, secondary, map, _⟩ := h
  exact ⟨acq, counter, guard, secondary, map, hf⟩

end blocks

/-! ### Ranges of records, samples and counts -/

theorem Segment.initial_inRange : Segment.initial.InRange :=
  ⟨by decide, by decide, by decide, by decide⟩

theorem SampleSet.initial_inRange : SampleSet.initial.InRange :=
  ⟨by decide, by decide, by decide⟩

/-- Counts that are all 0 lie in every range. -/
theorem zeroCounts_bounded (limit : Nat) :
    (List.replicate 64 0).length = 64 ∧ ∀ n ∈ List.replicate 64 0, n ≤ limit :=
  ⟨List.length_replicate, fun n hn => by simp [List.eq_of_mem_replicate hn]⟩

/-- Every record that is read is in range, also one of a number the table does not hold. -/
theorem Acq.seg_inRange {a : Acq} (h : ∀ g ∈ a.segs, g.InRange) (n : Nat) : (a.seg n).InRange := by
  unfold Acq.seg
  rw [List.getD_eq_getElem?_getD]
  cases e : a.segs[n]? with
  | none => exact Segment.initial_inRange
  | some g => exact h g (List.mem_of_getElem? e)

/-- What holds of every entry still does when one entry is replaced by another of the kind. -/
theorem forall_mem_set {α : Type} {p : α → Prop} {l : List α} (h : ∀ x ∈ l, p x) (n : Nat) {y : α}
    (hy : p y) : ∀ x ∈ l.set n y, p x := by
  intro x hx
  rcases List.mem_or_eq_of_mem_set hx with hx | rfl
  · exact h x hx
  · exact hy

/-- What an indexed map makes of every entry of the list holds of every entry it gives. -/
theorem forall_mem_mapIdx {α β : Type} {p : β → Prop} {f : Nat → α → β} {l : List α}
    (h : ∀ n, ∀ x ∈ l, p (f n x)) : ∀ y ∈ l.mapIdx f, p y := by
  intro y hy
  obtain ⟨n, hn, rfl⟩ := List.mem_mapIdx.mp hy
  exact h n _ (List.getElem_mem hn)

theorem clamp_range {lo hi x : Int} (h : lo ≤ hi) : lo ≤ clamp lo hi x ∧ clamp lo hi x ≤ hi := by
  unfold clamp
  split
  · omega
  · split <;> omega

/-- A force lies in the range of 01 R6. -/
theorem forceOf_range (gain : Nat) (offset raw : Int) :
    -32768 ≤ forceOf gain offset raw ∧ forceOf gain offset raw ≤ 32767 := by
  unfold forceOf
  split
  · decide
  · split
    · decide
    · exact clamp_range (by decide)

theorem Segment.sample_force_range (g : Segment) (settling : Bool) (raw : Int) :
    -32768 ≤ (g.sample settling raw).force ∧ (g.sample settling raw).force ≤ 32767 := by
  unfold Segment.sample
  split
  · exact forceOf_range _ _ _
  · decide

/-- A close forms a sample set in range: one sample per segment, and their sum (01 R3, R8). -/
theorem sampleSet_inRange {a : Acq} (h : a.segs.length = 64) (bridges : List Int) :
    (sampleSet a bridges).InRange where
  count := by simp [sampleSet, samplesOf, h]
  force := forall_mem_mapIdx fun _ _ _ => Segment.sample_force_range _ _ _
  total := rfl

/-! ### The shared operations keep the bounds -/

/-- A choice between two bounded parts is bounded. -/
theorem ite_bounded {p : Prop} [Decidable p] {a b : State} (ha : a.Bounded) (hb : b.Bounded) :
    (if p then a else b).Bounded := by
  split
  · exact ha
  · exact hb

section operations

variable {s : State} (h : s.Bounded)

include h

theorem closeCapture_bounded : (closeCapture s).Bounded := by
  rw [closeCapture_eq]; exact h

theorem endStroke_bounded : (endStroke s).Bounded := by
  rw [endStroke_eq]; exact h

theorem haltedEntry_bounded : (haltedEntry s).Bounded := by
  have hc : (if s.stroke.quiet == .expired then closeCapture s else s).Bounded :=
    ite_bounded (closeCapture_bounded h) h
  exact ite_bounded (endStroke_bounded hc) hc

theorem enterHalted_bounded (c : HaltCause) : (enterHalted c s).Bounded :=
  haltedEntry_bounded (s := postStroke .stroke c.code (stopWatchdog (enterState .halted s))) h

theorem recordSecondary_bounded (c : HaltCause) :
    (recordSecondary c s.stroke).secondaryCount ≤ 255 := by
  unfold recordSecondary
  split
  · exact h.secondary
  · exact satSucc_le _ _

theorem halt_bounded (c : HaltCause) : (halt c s).Bounded := by
  unfold halt
  cases s.stroke.state with
  | approach | capture =>
    exact enterHalted_bounded
      (s := addReason .stroke (s.onStroke fun k => { k with outcome := .halt c })) h c
  | hold =>
    exact enterHalted_bounded
      (s := s.onStroke fun k => { recordSecondary c k with dwell := none })
      (h.onStroke (recordSecondary_bounded h c)) c
  | halted | retract => exact h.onStroke (recordSecondary_bounded h c)
  | disarmed | ready | evaluate | complete => exact h

theorem giveTrip_bounded (c : HaltCause) (d : TripDetail) : (giveTrip c d s).Bounded :=
  halt_bounded (s := s.onGuard fun g => { g with tripGiven := true, trip := some d }) h c

theorem lockoutInReady_bounded (c : LockoutCause) : (lockoutInReady c s).Bounded :=
  ite_bounded h h

theorem lockoutCause_bounded (c : LockoutCause) (n : Option Nat) :
    (lockoutCause c n s).Bounded := by
  obtain ⟨persist, total, overtravel, -⟩ := h.guard
  unfold lockoutCause
  split
  · exact h.onGuard ⟨persist, total, overtravel, satSucc_le _ _⟩
  · have hk : (s.onGuard fun g => { g with lockout := newLockout c n s }).Bounded :=
      h.onGuard ⟨persist, total, overtravel, Nat.zero_le _⟩
    exact lockoutInReady_bounded
      (s := addReason .lockout (s.onGuard fun g => { g with lockout := newLockout c n s })) hk c

/-- The counts of a stroke that starts, or is reset, are all 0 (05 R87, R92, R102). -/
theorem clearedCounts_bounded {g : Guard} (hp : g.segPersist = List.replicate 64 0)
    (ht : g.totalPersist = 0) (ho : g.overtravel = 0) (hl : g.lockout = s.guard.lockout) :
    g.Bounded := by
  obtain ⟨-, -, -, repeats⟩ := h.guard
  unfold Guard.Bounded
  rw [hp, ht, ho, hl]
  exact ⟨zeroCounts_bounded 16, Nat.zero_le _, Nat.zero_le _, repeats⟩

theorem giveApproachCauses_bounded : (giveApproachCauses s).Bounded := by
  have fold : ∀ (cs : List HaltCause) (u : State), u.Bounded →
      (cs.foldl (fun t c => halt c t) u).Bounded := by
    intro cs
    induction cs with
    | nil => exact fun u hu => hu
    | cons c cs ih => exact fun u hu => ih _ (halt_bounded hu c)
  exact fold _ _ (ite_bounded h h)

theorem strokeStart_bounded : (strokeStart s).Bounded := by
  have hs : (s.onStroke fun k =>
      { k with number := k.number + 1, outcome := .none, secondary := none, secondaryCount := 0
               seat := none, captured := false, state := .approach }).Bounded :=
    h.onStroke (Nat.zero_le _)
  have hg := hs.onGuard (f := guardApproach) (clearedCounts_bounded hs rfl rfl rfl rfl)
  exact giveApproachCauses_bounded hg

theorem abandonCal_bounded : (abandonCal s).Bounded := by
  unfold abandonCal
  split
  · exact h
  · split <;> exact h

theorem homeLost_bounded : (homeLost s).Bounded := by
  have ha := abandonCal_bounded h
  exact ite_bounded (strokeStart_bounded ha) ha

theorem homeReached_bounded : (homeReached s).Bounded :=
  ite_bounded (endStroke_bounded (s := removeReason .resetHold s) h) h

theorem homeChange_bounded (before : Bool) : (homeChange before s).Bounded := by
  rcases homeChange_cases before s with ⟨-, -, e⟩ | ⟨-, -, e⟩ | ⟨-, e⟩ <;> rw [e]
  · exact homeLost_bounded h
  · exact homeReached_bounded h
  · exact h

theorem guardChange_bounded (before : Bool) : (guardChange before s).Bounded := by
  rcases guardChange_cases before s with ⟨-, -, -, e⟩ | ⟨-, e⟩ <;> rw [e]
  · exact halt_bounded h _
  · exact h

/-! ### Stations -/

theorem dwellExpired_bounded : (dwellExpired s).Bounded := by
  have hc := closeCapture_bounded
    (s := enterState .retract (s.onStroke fun k => { k with dwell := none })) h
  exact ite_bounded (endStroke_bounded (s := postStroke _ _ _) hc) hc

theorem seatAt_bounded (station : Nat) : (seatAt station s).Bounded := by
  unfold seatAt
  extract_lets s1 s2 s3 s4 s5
  have h5 : s5.Bounded := ite_bounded (closeCapture_bounded (s := s4) h) h
  exact ite_bounded (dwellExpired_bounded h5) h5

theorem examineLatch_bounded (r : Station) : (examineLatch r s).Bounded :=
  ite_bounded (seatAt_bounded h _) (ite_bounded (halt_bounded h _) h)

theorem countOvertravel_bounded : (countOvertravel s).Bounded := by
  obtain ⟨persist, total, -, repeats⟩ := h.guard
  have hg : (s.onGuard fun g => { g with overtravel := satSucc 1024 s.guard.overtravel }).Bounded :=
    h.onGuard ⟨persist, total, satSucc_le _ _, repeats⟩
  exact ite_bounded (ite_bounded hg hg) h

theorem latchStation_bounded (limit : Nat) : (latchStation limit s).Bounded := by
  unfold latchStation
  extract_lets r s1 s2 s3 s4 s5
  have h3 : s3.Bounded := countOvertravel_bounded (s := s2) h
  have h5 : s5.Bounded := ite_bounded (closeCapture_bounded (s := s4) h3) h3
  exact ite_bounded (examineLatch_bounded h5 r) h5

theorem latchTest_bounded : (latchTest s).Bounded := by
  unfold latchTest
  split
  · exact h
  · exact ite_bounded (latchStation_bounded h _) h

/-! ### The link's reply side -/

theorem placeNow_bounded (w : Waiting) : (placeNow w s).Bounded := by
  cases w <;> exact h

theorem place_bounded (w : Waiting) : (place w s).Bounded :=
  ite_bounded (placeNow_bounded h w) h

theorem answer_bounded (kind : Byte) (a : Answer) : (answer kind a s).Bounded := by
  cases a
  case reply | counters | toolReset => exact place_bounded h _
  case snapshot | mapCommit => exact h

theorem offer_bounded (kind : Byte) {serve : State → State × Answer}
    (hs : ∀ u : State, u.Bounded → (serve u).1.Bounded) : (offer kind serve s).Bounded := by
  unfold offer
  extract_lets u
  have hu : u.Bounded := h
  cases u.link.buffer with
  | empty => exact answer_bounded (hs u hu) _ _
  | snapshot | mapCommit | toolReset | waiting => exact hu

theorem transmit_bounded (together : Bool) : (transmit together s).Bounded := by
  have reply (r : Reply) (rest : List Reply) : (sendReply r rest s).Bounded := by
    exact ite_bounded h h
  unfold transmit
  split
  · exact h
  · refine ite_bounded h ?_
    cases s.link.replies with
    | nil => cases s.link.reports <;> exact h
    | cons r rs =>
      cases s.link.reports with
      | nil => exact reply r rs
      | cons p ps => exact ite_bounded (ite_bounded h (reply r rs)) (reply r rs)

theorem resetBuffer_bounded : (resetBuffer s).Bounded := by
  unfold resetBuffer
  cases s.link.buffer with
  | empty | snapshot | mapCommit | toolReset => exact h
  | waiting w =>
    cases w with
    | counters => exact place_bounded h _
    | made r => exact ite_bounded h (place_bounded h _)

theorem toolReset_bounded : (toolReset s).Bounded := by
  unfold toolReset
  extract_lets prior home s1 s2 s3 s4 s5 s6 s7
  have h2 : s2.Bounded := h
  have h3 : s3.Bounded := (h2.onStroke (f := Stroke.toolReset) (Nat.zero_le _)).onGuard
    (clearedCounts_bounded h rfl rfl rfl rfl)
  have h4 : s4.Bounded := h3.onMap ⟨Nat.zero_le _, h3.classes⟩
  exact resetBuffer_bounded (s := s6.onLink Link.toolReset) h4

end operations

/-! ### The tables of the acquisition unit -/

/-- A start of a settle keeps the bounds (01 R4). -/
theorem Acq.startSettle_bounded {a : Acq} (h : a.Bounded) : a.startSettle.Bounded := by
  obtain ⟨segs, -, -, -, sets⟩ := h
  exact ⟨segs, Nat.le_refl 8, zeroCounts_bounded 2, zeroCounts_bounded 2, sets⟩

/-- A table of 64 records in range may stand for the one held. -/
theorem Acq.withSegs_bounded {a : Acq} {segs : List Segment} (h : a.Bounded)
    (hs : segs.length = 64 ∧ ∀ g ∈ segs, g.InRange) : ({ a with segs := segs } : Acq).Bounded := by
  obtain ⟨-, rest⟩ := h
  exact ⟨hs, rest⟩

/-- A record is in range whatever its status and its two flags are. -/
theorem Segment.InRange.of_eq {g x : Segment} (h : g.InRange) (hg : x.gain = g.gain)
    (ho : x.offset = g.offset) (hr : x.shuntRef = g.shuntRef) (ht : x.tripLimit = g.tripLimit) :
    x.InRange :=
  ⟨hg ▸ h.gain, ho ▸ h.offset, hr ▸ h.shuntRef, ht ▸ h.tripLimit⟩

/-- A table with one record replaced by one in range. -/
theorem segs_set_bounded {segs : List Segment} (h : segs.length = 64 ∧ ∀ g ∈ segs, g.InRange)
    (n : Nat) {g : Segment} (hg : g.InRange) :
    (segs.set n g).length = 64 ∧ ∀ x ∈ segs.set n g, x.InRange :=
  ⟨by simpa using h.1, forall_mem_set h.2 n hg⟩

/-- A table written record by record stays in range where every record written is. -/
theorem segs_mapIdx_bounded {segs : List Segment} {f : Nat → Segment → Segment}
    (h : segs.length = 64 ∧ ∀ g ∈ segs, g.InRange) (hf : ∀ n g, g.InRange → (f n g).InRange) :
    (segs.mapIdx f).length = 64 ∧ ∀ x ∈ segs.mapIdx f, x.InRange :=
  ⟨by simpa using h.1, forall_mem_mapIdx fun n g hg => hf n g (h.2 g hg)⟩

/-! ### The steps that are due -/

section dueSteps

variable {s : State} (h : s.Bounded)

include h

theorem tareCompletion_bounded : (tareCompletion s).Bounded := by
  unfold tareCompletion
  split
  · exact h
  · next r _ =>
    split
    · exact h
    · refine State.Bounded.onAcq (f := fun a => { a with segs := a.segs.mapIdx _ }) h
        (Acq.withSegs_bounded h.acq (segs_mapIdx_bounded h.acq.segs fun n g hg => ?_))
      split
      · exact ⟨hg.gain, clamp_range (by decide), hg.shuntRef, hg.tripLimit⟩
      · exact hg

theorem shuntGroupJudged_bounded : (shuntGroupJudged s).Bounded := by
  unfold shuntGroupJudged
  split
  · exact h
  · split
    · exact h
    · split
      · exact h
      · next rest _ =>
        extract_lets members verdict written job s1
        have h1 : s1.Bounded := by
          refine State.Bounded.onAcq h
            (Acq.withSegs_bounded h.acq (segs_mapIdx_bounded h.acq.segs fun n x hx => ?_))
          split
          · exact hx.of_eq rfl rfl rfl rfl
          · exact hx
        cases rest <;> exact h1

theorem overrangeTaken_bounded (n : Nat) : (overrangeTaken n s).Bounded :=
  ite_bounded (halt_bounded (lockoutCause_bounded h _ _) _) (lockoutCause_bounded h _ _)

theorem bottomRailTaken_bounded (n : Nat) : (bottomRailTaken n s).Bounded := by
  have hn : ({ s.acq.seg n with status := .opened } : Segment).InRange :=
    (Acq.seg_inRange h.acq.segs.2 n).of_eq rfl rfl rfl rfl
  exact State.Bounded.onAcq
    (f := fun a => { a with segs := a.segs.set n { a.seg n with status := .opened } }) h
    (Acq.withSegs_bounded h.acq (segs_set_bounded h.acq.segs n hn))

theorem overtravelTaken_bounded : (overtravelTaken s).Bounded :=
  halt_bounded (lockoutCause_bounded (s := s.onGuard fun g => { g with overtravelGiven := true })
    h _ _) _

theorem deferredReplyTaken_bounded : (deferredReplyTaken s).Bounded := by
  unfold deferredReplyTaken
  cases s.link.buffer with
  | waiting w => exact place_bounded h _
  | empty | snapshot | mapCommit | toolReset => exact h

theorem answerSnapshot_bounded : (answerSnapshot s).Bounded := by
  unfold answerSnapshot
  cases s.link.buffer with
  | snapshot => exact place_bounded h _
  | empty | mapCommit | toolReset | waiting => exact h

theorem takeDue_bounded (d : Due) : (takeDue d s).Bounded := by
  cases d with
  | settleEnd | shuntWaitEnd => exact h
  | tripSegment n f => exact giveTrip_bounded h _ _
  | tripTotal f => exact giveTrip_bounded h _ _
  | overrange n => exact overrangeTaken_bounded h n
  | bottomRail n => exact bottomRailTaken_bounded h n
  | tareCompletion => exact tareCompletion_bounded h
  | shuntGroupJudged => exact shuntGroupJudged_bounded h
  | overtravel => exact overtravelTaken_bounded h
  | deferredReply => exact deferredReplyTaken_bounded h
  | toolReset => exact toolReset_bounded h
  | snapshotReply => exact answerSnapshot_bounded h

end dueSteps

theorem takeThrough_bounded {s : State} (wanted : Due → Bool) (ds : List Due) (h : s.Bounded) :
    (takeThrough wanted ds s).Bounded := by
  induction ds generalizing s with
  | nil => exact h
  | cons d ds ih =>
    have hd : (runDue d s).Bounded :=
      transmit_bounded (takeDue_bounded (s := s.withDue s.due.tail) h d) true
    exact ite_bounded hd (ih hd)

/-- A command of the running part keeps the bounds where its own effect does. -/
theorem live_bounded {f : State → State} {s t : State}
    (hf : ∀ u : State, u.Bounded → (f u).Bounded) (h : s.Bounded) (e : live f s = .next t) :
    t.Bounded := by
  cases e
  exact ite_bounded h (transmit_bounded (hf _ (takeThrough_bounded _ _ h)) true)

/-- A command that is a due step keeps the bounds. -/
theorem liveDue_bounded {wanted : Due → Bool} {s t : State} (h : s.Bounded)
    (e : liveDue wanted s = .next t) : t.Bounded := by
  cases e
  exact ite_bounded h (takeThrough_bounded _ _ h)

/-! ### Writing a segment record (01 R15, R16) -/

/-- A SET_SEGMENT whose fields are in range writes a record in range (01 R11, R15). -/
theorem SegmentWire.write_inRange {w : SegmentWire} {g : Segment} (hw : w.fieldsOk = true)
    (hg : g.InRange) : (w.write g).InRange := by
  simp only [SegmentWire.fieldsOk, Bool.and_eq_true, bne_iff_ne, decide_eq_true_eq] at hw
  obtain ⟨⟨⟨⟨-, hgain⟩, htrip0⟩, htrip⟩, href⟩ := hw
  have hmax := w.gain.isLt
  exact ⟨⟨Nat.pos_of_ne_zero hgain, by show w.gain.toNat ≤ 65535; omega⟩, hg.offset, href,
    Nat.pos_of_ne_zero htrip0, htrip⟩

/-- A change of one record to one in range keeps the bounds (01 R16). -/
theorem Acq.change_bounded {a : Acq} (h : a.Bounded) (n : Nat) (old : Segment) {new : Segment}
    (hn : new.InRange) : (a.change n old new).Bounded := by
  have hs := segs_set_bounded h.segs n
    (g := { new with status := changedStatus old new }) (hn.of_eq rfl rfl rfl rfl)
  have ha := Acq.withSegs_bounded h hs
  unfold Acq.change
  extract_lets a'
  split
  · exact Acq.startSettle_bounded ha
  · obtain ⟨-, settle, ⟨topCount, top⟩, ⟨bottomCount, bottom⟩, sets⟩ := h
    split
    · exact ⟨hs, settle, ⟨by simpa using topCount, forall_mem_set top n (Nat.zero_le _)⟩,
        ⟨by simpa using bottomCount, forall_mem_set bottom n (Nat.zero_le _)⟩, sets⟩
    · exact ha

/-! ### The owners of the requests -/

/-- A choice between two bounded answers is bounded. -/
theorem ite_answer_bounded {p : Prop} [Decidable p] {a b : State × Answer} (ha : a.1.Bounded)
    (hb : b.1.Bounded) : (if p then a else b).1.Bounded := by
  split
  · exact ha
  · exact hb

section owners

variable {s : State} (h : s.Bounded)

include h

theorem acceptSense_bounded (p : Period) : (acceptSense p s).Bounded := by
  obtain ⟨count, inRange⟩ := h.acq.segs
  refine State.Bounded.onAcq (f := fun a =>
    { a.startSettle with period := p, segs := a.segs.map Segment.uncheckEnabled }) h
    (Acq.withSegs_bounded (Acq.startSettle_bounded h.acq) ⟨by simpa using count, fun g hg => ?_⟩)
  obtain ⟨x, hx, rfl⟩ := List.mem_map.mp hg
  unfold Segment.uncheckEnabled
  split
  · exact (inRange x hx).of_eq rfl rfl rfl rfl
  · exact inRange x hx

theorem acceptSegment_bounded (n : Nat) (old : Segment) {new : Segment} (hn : new.InRange) :
    (acceptSegment n old new s).Bounded := by
  have ha : ((invalidateResults s).onAcq (Acq.change n old new)).Bounded :=
    State.Bounded.onAcq (s := invalidateResults s) h (Acq.change_bounded h.acq n old hn)
  exact ite_bounded ha ha

theorem closeCommit_bounded (c : Commit) : (closeCommit c s).Bounded := by
  unfold closeCommit
  split
  · exact h
  · exact State.Bounded.onMap
      (s := (invalidateResults s).onEngine fun e => { e with work := WorkTable.empty }) h
      ⟨Nat.zero_le _, h.classes⟩

theorem commitClosed_bounded : (commitClosed s).Bounded := by
  unfold commitClosed
  split
  · exact h
  · exact closeCommit_bounded h _

theorem acceptClass_bounded (n : Nat) (c : WindowClass) : (acceptClass n c s).Bounded := by
  exact ite_bounded h (State.Bounded.onMap (s := invalidateResults s)
    (f := fun m => { m with classes := m.classes.set n (some c) }) h
    ⟨h.staging, List.length_set.trans h.classes⟩)

theorem acceptParams_bounded (p : Params) : (acceptParams p s).Bounded := by
  have ht : (s.onStroke fun k => { k with params := p, paramsValid := true }).Bounded := h
  unfold acceptParams
  extract_lets t u
  have hu : u.Bounded := ite_bounded ht ht
  exact homeChange_bounded hu _

theorem acceptLines_bounded {records : List LineWire} (hr : lineCountOk records = true) :
    (acceptLines records s).Bounded := by
  have hl : (writeLineTable records s.lines.lines).length = 8 := by
    have : records.length = 8 := by simpa [lineCountOk] using hr
    simp [writeLineTable, this, h.lines]
  exact guardChange_bounded (homeChange_bounded (h.onLines hl) _) _

theorem serveSetSense_bounded (period : BitVec 16) : (serveSetSense period s).1.Bounded := by
  refine ite_answer_bounded h (ite_answer_bounded h ?_)
  split
  · exact h
  · exact acceptSense_bounded h _

theorem serveSetSegment_bounded (w : SegmentWire) : (serveSetSegment w s).1.Bounded := by
  refine ite_answer_bounded h (ite_answer_bounded h ?_)
  split
  · exact h
  · next hw =>
    have hn := SegmentWire.write_inRange (by simpa using hw)
      (Acq.seg_inRange h.acq.segs.2 w.segment.toNat)
    exact ite_answer_bounded h (acceptSegment_bounded h _ _ hn)

theorem serveSetStroke_bounded (w : StrokeWire) : (serveSetStroke w s).1.Bounded := by
  refine ite_answer_bounded h ?_
  split
  · exact h
  · exact acceptParams_bounded h _

theorem serveDisarm_bounded : (serveDisarm s).1.Bounded := by
  unfold serveDisarm
  cases s.stroke.state <;> exact h

theorem serveAbort_bounded : (serveAbort s).1.Bounded := by
  unfold serveAbort
  cases s.stroke.state with
  | approach | capture | hold => exact halt_bounded h _
  | disarmed | ready | halted | retract | evaluate | complete => exact h

theorem serveMapAdd_bounded (records : List PinWire) : (serveMapAdd records s).1.Bounded := by
  refine ite_answer_bounded h ?_
  split
  · exact h
  · extract_lets list
    split
    · exact h
    · next hlen =>
      exact State.Bounded.onMap (f := fun m => { m with staging := list }) h
        ⟨Nat.le_of_not_lt hlen, h.classes⟩

theorem serveSetClass_bounded (w : ClassWire) : (serveSetClass w s).1.Bounded := by
  refine ite_answer_bounded h ?_
  split
  · exact h
  · exact acceptClass_bounded h _ _

theorem serveResultSummary_bounded : (serveResultSummary s).1.Bounded := by
  refine ite_answer_bounded h (ite_answer_bounded h ?_)
  split <;> exact h

theorem serveMapBegin_bounded : (serveMapBegin s).1.Bounded := by
  exact State.Bounded.onMap (f := fun m => { m with staging := [] }) h ⟨Nat.zero_le _, h.classes⟩

theorem serveSetLines_bounded (records : List LineWire) : (serveSetLines records s).1.Bounded := by
  unfold serveSetLines
  split
  · exact h
  · next hr =>
    refine ite_answer_bounded h ?_
    split
    · exact h
    · exact acceptLines_bounded h (by simpa using hr)

theorem serveArm_bounded : (serveArm s).1.Bounded := by
  rcases serveArm_cases s with ⟨_, e⟩ | ⟨-, -, -, e⟩ <;> rw [e]
  · exact h
  · exact commitClosed_bounded h

theorem serveWriteLines_bounded (values : Byte) : (serveWriteLines values s).1.Bounded := by
  exact h.onLines (by simpa [writeStored] using h.lines)

end owners

/-- Every owner's immediate action keeps the bounds. -/
theorem serve_bounded (r : Request) {s : State} (h : s.Bounded) : (serve r s).1.Bounded := by
  cases r with
  | ping | status | countersRead | toolReset | getStroke | lockoutRead | readLines | snapshot =>
    exact h
  | getSegment | mapRead | getClass | profileRead => exact ite_answer_bounded h h
  | setLink | mapCommit => exact ite_answer_bounded h (ite_answer_bounded h h)
  | tare | resultRead => exact ite_answer_bounded h (ite_answer_bounded h (ite_answer_bounded h h))
  | shuntCheck | lockoutClear =>
    exact ite_answer_bounded h
      (ite_answer_bounded h (ite_answer_bounded h (ite_answer_bounded h h)))
  | setSense period => exact serveSetSense_bounded h period
  | setSegment w => exact serveSetSegment_bounded h w
  | setStroke w => exact serveSetStroke_bounded h w
  | arm => exact serveArm_bounded h
  | disarm => exact serveDisarm_bounded h
  | abort => exact serveAbort_bounded h
  | mapBegin => exact serveMapBegin_bounded h
  | mapAdd records => exact serveMapAdd_bounded h records
  | setClass w => exact serveSetClass_bounded h w
  | resultSummary => exact serveResultSummary_bounded h
  | setLines records => exact serveSetLines_bounded h records
  | writeLines values => exact serveWriteLines_bounded h values

theorem request_bounded (r : Request) {s t : State} (h : s.Bounded)
    (e : request r (serve r) s = .next t) : t.Bounded :=
  live_bounded (fun _ hu => offer_bounded hu _ fun _ hv => serve_bounded r hv) h e

/-! ### The events -/

/-- A change of one phase leaves the counter. -/
theorem Pos.flip_counter (ph : Phase) (p : Pos) : (p.flip ph).counter = p.counter := by
  cases ph <;> rfl

section events

variable {s : State} (h : s.Bounded)

include h

theorem frameComplete_bounded (length : Byte) (taken : List Byte) (received : BitVec 16) :
    (frameComplete length taken received s).Bounded := by
  refine ite_bounded ?_ h
  unfold offerFrame
  split
  · exact h
  · refine offer_bounded (s := setReceiver .seek s) h _ fun u hu => ?_
    unfold serveFrame
    split
    · exact serve_bounded _ hu
    · exact hu
    · exact hu

theorem takeByte_bounded (b : Byte) : (takeByte b s).Bounded := by
  unfold takeByte
  cases s.link.receiver with
  | seek | header | body => exact ite_bounded h h
  | check length taken first =>
    cases first with
    | none => exact h
    | some a => exact frameComplete_bounded h _ _ _
  | discard => exact h

theorem frameReceived_bounded (check : Byte) : (frameReceived check s).Bounded := by
  unfold frameReceived
  cases s.link.receiver with
  | check length taken first =>
    cases first with
    | none => exact h
    | some a => exact frameComplete_bounded h _ _ _
  | seek | header | body | discard => exact h

theorem headerLengthError_bounded (b : Byte) : (headerLengthError b s).Bounded := by
  unfold headerLengthError
  cases s.link.receiver with
  | header => exact ite_bounded h h
  | seek | body | check | discard => exact h

theorem frameTimeout_bounded : (frameTimeout s).Bounded := by
  unfold frameTimeout
  split <;> exact h

theorem discardGapEnd_bounded : (discardGapEnd s).Bounded := by
  unfold discardGapEnd
  split <;> exact h

theorem frameTransmitted_bounded : (frameTransmitted s).Bounded := by
  unfold frameTransmitted
  split
  · exact h
  · exact ite_bounded h (transmit_bounded (s := s.onLink fun l => { l with sending := none }) h _)

theorem watchdogExpiry_bounded : (watchdogExpiry s).Bounded := by
  unfold watchdogExpiry
  split
  · exact h
  · exact ite_bounded h (halt_bounded (s := stopWatchdog s) h _)

theorem commitEnd_bounded : (commitEnd s).Bounded := by
  unfold commitEnd
  split
  · exact h
  · have hc := closeCommit_bounded h
    exact ite_bounded (ite_bounded (place_bounded (hc _) _) (hc _)) h

theorem encoderFaultTaken_bounded (e : EncoderEvent) : (encoderFaultTaken e s).Bounded := by
  unfold encoderFaultTaken
  extract_lets before k s1 s2 s3
  have h3 : s3.Bounded := ite_bounded (halt_bounded (s := s2) h _) h
  exact homeChange_bounded h3 _

theorem flip_bounded (ph : Phase) : (s.onPos (Pos.flip ph)).Bounded := by
  exact h.onPos (by rw [Pos.flip_counter]; exact h.counter)

theorem encoderFault_bounded (t : Transition) : (encoderFault t s).Bounded := by
  cases t with
  | both => exact encoderFaultTaken_bounded (flip_bounded (flip_bounded h .a) .b) _
  | one ph => exact ite_bounded (encoderFaultTaken_bounded (flip_bounded h ph) _) h

theorem countTaken_bounded (before wasApproach : Bool) :
    (countTaken before wasApproach s).Bounded := by
  have hc := homeChange_bounded h before
  have entered : (captureEntry (homeChange before s)).Bounded := hc
  exact ite_bounded (latchTest_bounded entered) (latchTest_bounded hc)

/-- A count is taken only within the limits of the counter (03 R41). -/
theorem encoderCount_bounded (ph : Phase) : (encoderCount ph s).Bounded := by
  unfold encoderCount
  split
  · exact encoderFaultTaken_bounded (flip_bounded h ph) _
  · next hb =>
    have hp : -8388608 ≤ s.pos.counted ph ∧ s.pos.counted ph ≤ 8388607 := by
      simpa [Pos.beyond, and_comm] using hb
    exact countTaken_bounded (h.onPos hp) _ _

theorem referencePulse_bounded : (referencePulse s).Bounded := by
  have ht : (s.onPos fun p => { p with counter := 0, referenced := true, encZ := .high }).Bounded :=
    h.onPos (by show (-8388608 : Int) ≤ 0 ∧ (0 : Int) ≤ 8388607; decide)
  unfold referencePulse
  extract_lets before t u
  have hu : u.Bounded := ite_bounded ht ht
  exact homeChange_bounded hu _

theorem dwellExpiry_bounded : (dwellExpiry s).Bounded :=
  ite_bounded (dwellExpired_bounded h) h

theorem quietTimerExpiry_bounded : (quietTimerExpiry s).Bounded :=
  ite_bounded (ite_bounded h (closeCapture_bounded h)) h

theorem evaluationCompletion_bounded : (evaluationCompletion s).Bounded := by
  unfold evaluationCompletion
  split <;> exact h

theorem stopNSenseChange_bounded (level : Level) : (stopNSenseChange level s).Bounded := by
  refine ite_bounded h ?_
  cases level with
  | low =>
    unfold senseLow
    extract_lets external s1
    have h1 : s1.Bounded := h
    exact ite_bounded (halt_bounded h1 _) h1
  | high => exact h

theorem readbackTimerExpiry_bounded : (readbackTimerExpiry s).Bounded :=
  ite_bounded (halt_bounded (lockoutCause_bounded
    (s := s.onGuard fun g => { g with readback := .expired }) h _ _) _) h

theorem lineFilterChange_bounded (n : Nat) (level : Level) :
    (lineFilterChange n level s).Bounded := by
  have hl : (s.onLines (Lines.filter n level)).Bounded :=
    h.onLines (List.length_set.trans h.lines)
  exact ite_bounded h (guardChange_bounded (homeChange_bounded hl _) _)

end events

/-! ### The close of a conversion round -/

/-- Every pair count stays within 0 to 2 (01 R9, R10). -/
theorem pairCount_le {enabled rail : Bool} {n : Nat} (h : n ≤ 2) :
    pairCount enabled rail n ≤ 2 := by
  unfold pairCount
  split
  · exact h
  · split
    · exact satSucc_le _ _
    · exact Nat.zero_le _

theorem pairCounts_bounded {counts : List Nat} (h : counts.length = 64 ∧ ∀ n ∈ counts, n ≤ 2)
    (segs : List Segment) (set : SampleSet) (rail : Sample → Bool) :
    (pairCounts segs set rail counts).length = 64 ∧
      ∀ n ∈ pairCounts segs set rail counts, n ≤ 2 :=
  ⟨by simpa [pairCounts] using h.1, forall_mem_mapIdx fun _ n hn => pairCount_le (h.2 n hn)⟩

theorem Acq.publish_bounded {a : Acq} {set : SampleSet} (h : a.Bounded) (hs : set.InRange) :
    (a.publish set).Bounded := by
  obtain ⟨segs, settle, top, bottom, -⟩ := h
  exact ⟨segs, settle, pairCounts_bounded top _ _ _, pairCounts_bounded bottom _ _ _, hs,
    fun _ e => Option.some.inj e ▸ hs⟩

/-- Every persistence count stays within 0 to 16 (05 R88, R89). -/
theorem persistCount_le (exceeds : Bool) (n : Nat) : persistCount exceeds n ≤ 16 := by
  unfold persistCount
  split
  · exact satSucc_le _ _
  · exact Nat.zero_le _

theorem Guard.examine_bounded {g : Guard} (h : g.Bounded) (segs : List Segment) (set : SampleSet)
    (limit : Nat) : (g.examine segs set limit).Bounded := by
  obtain ⟨⟨count, -⟩, -, rest⟩ := h
  exact ⟨⟨by simpa [Guard.examine] using count, forall_mem_mapIdx fun _ _ _ => persistCount_le _ _⟩,
    persistCount_le _ _, rest⟩

section close

variable {s : State} (h : s.Bounded)

include h

theorem settleRound_bounded {set : SampleSet} (hs : set.InRange) : (settleRound set s).Bounded := by
  obtain ⟨segs, settle, top, bottom, -, published⟩ := h.acq
  exact State.Bounded.onAcq
    (f := fun a => { a with latest := set, settleCount := s.acq.settleCount - 1 }) h
    ⟨segs, (Nat.sub_le _ _).trans settle, top, bottom, hs, published⟩

theorem publishRound_bounded {set : SampleSet} (hs : set.InRange) :
    (publishRound set s).Bounded := by
  unfold publishRound
  extract_lets before s1 examines s2 s3 bottoms overs trips t
  have h1 : s1.Bounded := h.onAcq (f := Acq.publish set) (Acq.publish_bounded h.acq hs)
  have h2 : s2.Bounded :=
    ite_bounded (h1.onGuard (Guard.examine_bounded h1.guard _ _ _)) h1
  have ht : t.Bounded := h2
  exact ite_bounded ht ht

theorem closeSnapshot_bounded : (closeSnapshot s).Bounded := by
  rcases closeSnapshot_cases s with ⟨-, e⟩ | ⟨-, e | e⟩ <;> rw [e]
  · exact answerSnapshot_bounded h
  · exact answerSnapshot_bounded h
  · exact h

theorem roundClose_bounded (bridges : List Int) : (roundClose bridges s).Bounded := by
  have hs := sampleSet_inRange h.acq.segs.1 bridges
  exact closeSnapshot_bounded (ite_bounded (settleRound_bounded h hs) (publishRound_bounded h hs))

end close

/-! ### Power-on reset, and every command -/

/-- The part at the release of power-on reset is bounded. -/
theorem released_bounded (w : Straps) : (State.released w).Bounded :=
  ⟨⟨⟨List.length_replicate, fun _ hg => List.eq_of_mem_replicate hg ▸ Segment.initial_inRange⟩,
    Nat.le_refl 8, zeroCounts_bounded 2, zeroCounts_bounded 2, SampleSet.initial_inRange, nofun⟩,
    (by show (-8388608 : Int) ≤ 0 ∧ (0 : Int) ≤ 8388607; decide),
    ⟨zeroCounts_bounded 16, Nat.zero_le _, Nat.zero_le _, Nat.zero_le _⟩, Nat.zero_le _,
    ⟨Nat.zero_le _, List.length_replicate⟩, List.length_replicate⟩

/-- Every command keeps the bounds. -/
theorem exec_bounded (c : Instr) {s t : State} (h : s.Bounded) (e : exec c s = .next t) :
    t.Bounded := by
  cases c with
  | ping | status | countersRead | setLink | toolReset | setSense | setSegment | getSegment
  | snapshot | tare | shuntCheck | setStroke | getStroke | arm | disarm | abort | lockoutRead
  | lockoutClear | mapBegin | mapAdd | mapCommit | mapRead | setClass | getClass | profileRead
  | resultRead | resultSummary | setLines | writeLines | readLines => exact request_bounded _ h e
  | toolResetActs | deferredReplyPlaced | settleEnd | tripSegment | tripTotal | overrangeEvent
  | bottomRailPair | tareCompletion | shuntWaitEnd | shuntGroupJudged | overtravel =>
    exact liveDue_bounded h e
  | mapCommitCompletion => exact live_bounded (fun _ => commitEnd_bounded) h e
  | frameReceived check => exact live_bounded (fun _ hu => frameReceived_bounded hu check) h e
  | headerLengthError b => exact live_bounded (fun _ hu => headerLengthError_bounded hu b) h e
  | frameTimeout => exact live_bounded (fun _ => frameTimeout_bounded) h e
  | discardGapEnd => exact live_bounded (fun _ => discardGapEnd_bounded) h e
  | frameTransmitted => exact live_bounded (fun _ => frameTransmitted_bounded) h e
  | watchdogExpiry => exact live_bounded (fun _ => watchdogExpiry_bounded) h e
  | linkReset => exact live_bounded (f := linkReset) (fun _ hu => hu) h e
  | resetNToolReset us =>
    exact live_bounded (f := resetPulse us) (fun _ hu => ite_bounded (toolReset_bounded hu) hu) h e
  | powerOnReset => cases e; exact released_bounded Straps.allLow
  | powerOnResetRelease w =>
    cases e
    exact ite_bounded (released_bounded w) (takeThrough_bounded _ _ h)
  | conversionRoundClose bridges =>
    exact live_bounded (fun _ hu => roundClose_bounded hu bridges) h e
  | encoderCount ph => exact live_bounded (fun _ hu => encoderCount_bounded hu ph) h e
  | encoderFault tr => exact live_bounded (fun _ hu => encoderFault_bounded hu tr) h e
  | referencePulse => exact live_bounded (fun _ => referencePulse_bounded) h e
  | dwellExpiry => exact live_bounded (fun _ => dwellExpiry_bounded) h e
  | quietTimerExpiry => exact live_bounded (fun _ => quietTimerExpiry_bounded) h e
  | evaluationCompletion => exact live_bounded (fun _ => evaluationCompletion_bounded) h e
  | stopNSenseChange level => exact live_bounded (fun _ hu => stopNSenseChange_bounded hu level) h e
  | readbackTimerExpiry => exact live_bounded (fun _ => readbackTimerExpiry_bounded) h e
  | lineFilterChange line level =>
    exact live_bounded (fun _ hu => lineFilterChange_bounded hu line.val level) h e
  | byteTaken b => exact live_bounded (fun _ hu => takeByte_bounded hu b) h e

/-- Settles O55: the bounds are those of `State.Bounded`, which every command keeps. -/
theorem storeBoundsAreKept : Obligations.StoreBoundsAreKept := by
  intro c s t h e
  rw [storeBounds_iff_bounded] at h ⊢
  exact exec_bounded c h e

end Sys2Proof.Machine
end

section
/-! SUPPORT. SET_SENSE and SET_SEGMENT (01 R13 to R17): what their owner does in each case. -/

namespace Sys2Proof.Machine

/-! ### SET_SENSE (01 R13, R14) -/

/-- A number outside the four names no period (01 R13). -/
theorem periodOf_none {w : BitVec 16} (h : w.toNat ∉ [250, 500, 1000, 2000]) :
    periodOf w = none := by
  simp only [List.mem_cons, List.not_mem_nil, or_false, not_or] at h
  obtain ⟨h250, h500, h1000, h2000⟩ := h
  simp [periodOf, h250, h500, h1000, h2000]

/-- The four periods by their lengths in microseconds (01 R2, R13). -/
theorem periodOf_some {w : BitVec 16} {p : Period}
    (h : (w.toNat, p) ∈ [(250, Period.us250), (500, .us500), (1000, .us1000), (2000, .us2000)]) :
    periodOf w = some p := by
  simp only [List.mem_cons, List.not_mem_nil, or_false, Prod.mk.injEq] at h
  rcases h with ⟨hw, rfl⟩ | ⟨hw, rfl⟩ | ⟨hw, rfl⟩ | ⟨hw, rfl⟩ <;> simp [periodOf, hw]

section setSense

variable {w : BitVec 16} {s : State}

theorem serveSetSense_busy (h : s.cal.run.isSome = true) :
    serveSetSense w s = (s, .refusal .busy) := if_pos h

theorem serveSetSense_state (hc : s.cal.run = none) (hi : s.stroke.state.idle = false) :
    serveSetSense w s = (s, .refusal .state) := by
  simp [serveSetSense, hc, hi]

theorem serveSetSense_field (hc : s.cal.run = none) (hi : s.stroke.state.idle = true)
    (hp : periodOf w = none) : serveSetSense w s = (s, .refusal .field) := by
  simp [serveSetSense, hc, hi, hp]

theorem serveSetSense_ok {p : Period} (hc : s.cal.run = none) (hi : s.stroke.state.idle = true)
    (hp : periodOf w = some p) : serveSetSense w s = (acceptSense p s, .ok) := by
  simp [serveSetSense, hc, hi, hp]

end setSense

/-- Settles O11, by the three refusals of R13 in their order and the acceptance of R14. -/
theorem setSenseForcesASettle : Obligations.SetSenseForcesASettle := by
  intro w s h
  refine ⟨fun hc => ?_, fun hc hi => ?_, fun hc hi hw => ?_, fun p hc hi hw => ?_⟩
  · exact request_read h rfl (serveSetSense_busy hc)
  · exact request_read h rfl (serveSetSense_state hc hi)
  · exact request_read h rfl (serveSetSense_field hc hi (periodOf_none hw))
  · exact request_acts h rfl (serveSetSense_ok hc hi (periodOf_some hw)) rfl h.toReady.quiet

/-! ### SET_SEGMENT (01 R15 to R17) -/

/-- The third check of R15 is the range of every field. -/
theorem SegmentWire.fieldsOk_iff (w : SegmentWire) :
    w.fieldsOk = true ↔ segmentFieldsInRange w := by
  simp only [SegmentWire.fieldsOk, segmentFieldsInRange, Bool.and_eq_true, bne_iff_ne,
    decide_eq_true_eq]
  omega

section setSegment

variable {w : SegmentWire} {s : State}

theorem serveSetSegment_busy (h : s.cal.run.isSome = true) :
    serveSetSegment w s = (s, .refusal .busy) := if_pos h

theorem serveSetSegment_state (hc : s.cal.run = none) (hi : s.stroke.state.idle = false) :
    serveSetSegment w s = (s, .refusal .state) := by
  simp [serveSetSegment, hc, hi]

theorem serveSetSegment_field (hc : s.cal.run = none) (hi : s.stroke.state.idle = true)
    (hw : ¬segmentFieldsInRange w) : serveSetSegment w s = (s, .refusal .field) := by
  rw [← SegmentWire.fieldsOk_iff] at hw
  simp [serveSetSegment, hc, hi, hw]

theorem serveSetSegment_same {old : Segment} (hc : s.cal.run = none)
    (hi : s.stroke.state.idle = true) (hw : segmentFieldsInRange w)
    (ho : s.acq.segs[w.segment.toNat]? = some old) (he : w.write old = old) :
    serveSetSegment w s = (s, .ok) := by
  rw [← SegmentWire.fieldsOk_iff] at hw
  simp [serveSetSegment, hc, hi, hw, Acq.seg, ho, he]

theorem serveSetSegment_change {old : Segment} (hc : s.cal.run = none)
    (hi : s.stroke.state.idle = true) (hw : segmentFieldsInRange w)
    (ho : s.acq.segs[w.segment.toNat]? = some old) (he : w.write old ≠ old) :
    serveSetSegment w s = (acceptSegment w.segment.toNat old (w.write old) s, .ok) := by
  rw [← SegmentWire.fieldsOk_iff] at hw
  simp [serveSetSegment, hc, hi, hw, Acq.seg, ho, he]

end setSegment

/-- What a changed record makes of the part: a newly enabled segment begins a settle and clears
tare-valid, a newly disabled one has its pair counts cleared, and the results become invalid
(01 R16, R17). -/
theorem acceptSegment_eq (n : Nat) (old new : Segment) (s : State) :
    acceptSegment n old new s =
      let starts := old.enabled = false ∧ new.enabled = true
      let stops := old.enabled = true ∧ new.enabled = false
      { s with
        acq := { s.acq with
          segs := s.acq.segs.set n { new with
            status := if starts ∨ old.gain ≠ new.gain ∨ old.shuntRef ≠ new.shuntRef then .unchecked
              else old.status }
          settleCount := if starts then 8 else s.acq.settleCount
          topPairs := if starts then List.replicate 64 0
            else if stops then s.acq.topPairs.set n 0 else s.acq.topPairs
          bottomPairs := if starts then List.replicate 64 0
            else if stops then s.acq.bottomPairs.set n 0 else s.acq.bottomPairs }
        cal := { s.cal with tareValid := if starts then false else s.cal.tareValid }
        engine := { s.engine with results := [], summary := none, valid := false } } := by
  have hst : changedStatus old new =
      if (old.enabled = false ∧ new.enabled = true) ∨ old.gain ≠ new.gain ∨
        old.shuntRef ≠ new.shuntRef then .unchecked else old.status := by
    simp [changedStatus, or_assoc]
  unfold acceptSegment Acq.change
  rw [hst]
  cases old.enabled <;> cases new.enabled <;> rfl

/-- The bridge of a changed segment is excited while it is enabled (01 R1). -/
theorem acceptSegment_excites {n : Nat} {old new : Segment} {s : State}
    (hn : n < s.acq.segs.length) : (acceptSegment n old new s).excites n = new.enabled := by
  rw [acceptSegment_eq]
  simp [State.excites, Acq.seg, hn]

/-- An accepted SET_SEGMENT is answered at once, with the record changed (01 R16). -/
theorem execSetSegment_change {w : SegmentWire} {s : State} {old : Segment} (h : s.Serving)
    (hc : s.cal.run = none) (hi : s.stroke.state.idle = true) (hw : segmentFieldsInRange w)
    (ho : s.acq.segs[w.segment.toNat]? = some old) (he : w.write old ≠ old) :
    execSetSegment w s =
      .next ((acceptSegment w.segment.toNat old (w.write old) s).replied 0x09#8 .ok []) := by
  have hs := serveSetSegment_change (s := { s with link := s.link.heard }) hc hi hw ho he
  rw [acceptSegment_eq] at hs ⊢
  exact request_acts h rfl hs rfl h.toReady.quiet

/-- Settles O12, by the refusals of R15 in their order, and the record left or changed. -/
theorem setSegmentWritesTheRecord : Obligations.SetSegmentWritesTheRecord := by
  refine ⟨fun w s h => ⟨fun hc => ?_, fun hc hi => ?_, fun hc hi hw => ?_⟩, ?_⟩
  · exact request_read h rfl (serveSetSegment_busy hc)
  · exact request_read h rfl (serveSetSegment_state hc hi)
  · exact request_read h rfl (serveSetSegment_field hc hi hw)
  intro w s old h hc hi hw ho new starts stops
  have same (e : new = old) : exec (.setSegment w) s = .next (s.replied 0x09#8 .ok []) :=
    request_read h rfl (serveSetSegment_same hc hi hw ho e)
  have change (e : new ≠ old) : exec (.setSegment w) s =
      .next ((acceptSegment w.segment.toNat old new s).replied 0x09#8 .ok []) :=
    execSetSegment_change h hc hi hw ho e
  refine ⟨same, fun e => ?_, fun t ht => ?_⟩
  · have hstarts : (old.enabled = false ∧ new.enabled = true) = starts := by
      simp [new, starts]
    have hstops : (old.enabled = true ∧ new.enabled = false) = stops := by
      obtain ⟨-, henabled, -⟩ := hw
      simp only [new, stops, decide_eq_false_iff_not, eq_iff_iff]
      exact and_congr_right fun _ => by omega
    rw [change e, acceptSegment_eq]
    simp only [hstarts, hstops]
  · by_cases e : new = old
    · cases (same e).symm.trans ht
      exact (excites_eq (s := s) ho).trans (congrArg Segment.enabled e).symm
    · cases (change e).symm.trans ht
      exact acceptSegment_excites (List.getElem?_eq_some_iff.mp ho).1

end Sys2Proof.Machine
end

section
/-! SUPPORT. The state right after power-on reset, and the part held in it (09 R175, 10 R193). -/

namespace Sys2Proof.Machine

/-! ### The state right after reset -/

theorem released_linkBounds (w : Straps) : (State.released w).LinkBounds where
  replies := Nat.zero_le _
  reports := Nat.zero_le _
  crcErrors := Nat.zero_le _
  timeouts := Nat.zero_le _
  overruns := Nat.zero_le _
  lost := Nat.zero_le _
  stale := Nat.zero_le _
  expiries := Nat.zero_le _
  fed := .inr fun _ => ⟨rfl, rfl⟩

theorem released_strokeTies (w : Straps) : (State.released w).StrokeTies where
  ready := nofun
  returning := nofun
  strokeReason := rfl
  lockoutReason := rfl
  readback := iff_of_true rfl (.inl rfl)
  engine := iff_of_false nofun nofun
  work _ := rfl
  dwell := iff_of_false nofun nofun
  watchdog := nofun
  capture := nofun
  mayCapture := nofun
  condition := iff_of_false nofun nofun
  quiet := iff_of_true rfl rfl
  copies := nofun
  stations := rfl
  calibration := nofun
  switches _ := rfl

/-- Settles O57, condition by condition. -/
theorem resetMeetsTheConditions : Obligations.ResetMeetsTheConditions := fun w =>
  ⟨released_linkBounds w, (storeBounds_iff_bounded _).mpr (released_bounded w),
    released_strokeTies w⟩

/-! ### A part held in power-on reset (log 20) -/

/-- No bridge is excited in a held part, where every segment has its reset record (01 R1, R21). -/
theorem powerOnHold_excites (s : State) (n : Nat) : (powerOnHold s).excites n = false := by
  have h : (powerOnHold s).acq.seg n = Segment.initial :=
    List.getD_eq_getElem?_getD.trans (List.getElem?_getD_replicate_default_eq _ 64 n)
  rw [State.excites, h]
  rfl

/-- Every shunt switch of a held part is open (02 R23, R38). -/
theorem powerOnHold_shuntClosed (s : State) (n : Nat) : (powerOnHold s).shuntClosed n = false :=
  List.getD_eq_getElem?_getD.trans (List.getElem?_getD_replicate_default_eq _ 4 (n / 16))

/-- A due step of a held part is not taken. -/
theorem liveDue_held {s : State} (h : s.held = true) (p : Due → Bool) : liveDue p s = .next s := by
  simp [liveDue, h]

/-- A held part takes no command but those of power-on reset. -/
theorem exec_held {c : Instr} {s : State} (h : s.held = true) (h1 : c ≠ .powerOnReset)
    (h2 : ∀ w, c ≠ .powerOnResetRelease w) : exec c s = .next s := by
  cases c with
  | powerOnReset => exact absurd rfl h1
  | powerOnResetRelease w => exact absurd rfl (h2 w)
  | toolResetActs | deferredReplyPlaced | settleEnd | tripSegment | tripTotal | overrangeEvent
  | bottomRailPair | tareCompletion | shuntWaitEnd | shuntGroupJudged | overtravel =>
    exact liveDue_held h _
  | _ => exact live_held h _

/-- Settles O33: the hold and the release write the reset tables, and a held part waits. -/
theorem powerOnResetGivesTheResetValues : Obligations.PowerOnResetGivesTheResetValues :=
  ⟨fun w s => ⟨powerOnHold s, powerOnRelease w (powerOnHold s), rfl, rfl, rfl, rfl,
    fun n => ⟨powerOnHold_excites s n, powerOnHold_shuntClosed s n⟩, rfl, rfl⟩,
    fun _ _ => exec_held⟩

end Sys2Proof.Machine
end

section
/-! SUPPORT. The arithmetic of forces (00 section 4.2, 01 R1, R2, R6, R7). -/

namespace Sys2Proof.Machine

/-! ### Rounded division (00 section 4.2) -/

/-- A numerator of 0 or above is rounded to a nearest multiple, and up where it lies halfway. -/
theorem roundDiv_nonneg {n : Int} {d : Nat} (hn : 0 ≤ n) (hd : 0 < d) :
    -(d : Int) ≤ 2 * (n - d * roundDiv n d) ∧ 2 * (n - d * roundDiv n d) < d := by
  have split := Int.mul_ediv_add_emod (2 * n + d) (2 * d)
  have low := Int.emod_nonneg (2 * n + d) (b := 2 * d) (by omega)
  have high := Int.emod_lt_of_pos (2 * n + d) (b := 2 * d) (by omega)
  rw [roundDiv, if_pos hn]
  rw [mul_assoc] at split
  constructor <;> linarith

/-- Rounding is odd: halves go away from zero on both sides. -/
theorem roundDiv_neg (n : Int) (d : Nat) : roundDiv (-n) d = -roundDiv n d := by
  rcases lt_trichotomy n 0 with h | rfl | h
  · simp [roundDiv, h.le, h.not_ge]
  · have : (d : Int) / (2 * d) = 0 := by
      rcases Nat.eq_zero_or_pos d with rfl | hd
      · rfl
      · exact Int.ediv_eq_zero_of_lt (by omega) (by omega)
    simp [roundDiv, this]
  · simp [roundDiv, h.le, h.not_ge]

/-- The rounded quotient is a nearest one, and of two nearest ones the one farther from zero. -/
theorem roundDiv_nearest (n : Int) {d : Nat} (hd : 0 < d) :
    2 * (n - d * roundDiv n d).natAbs ≤ d ∧
      (2 * (n - d * roundDiv n d).natAbs = d → n.natAbs < (d * roundDiv n d).natAbs) := by
  rcases le_total 0 n with h | h
  · obtain ⟨low, high⟩ := roundDiv_nonneg h hd
    omega
  · obtain ⟨low, high⟩ := roundDiv_nonneg (Int.neg_nonneg_of_nonpos h) hd
    rw [roundDiv_neg, mul_neg] at low high
    omega

/-! ### The sample of a raw code (01 R6, R7) -/

section sample

variable {g : Segment} {settling : Bool} {r : Int}

theorem sample_topRail (hg : g.enabled = true) :
    g.sample settling 131071 =
      { raw := some 131071, force := 32767, sat := true, settling := settling } := by
  simp [Segment.sample, hg, forceOf, satOf, atRail]

theorem sample_bottomRail (hg : g.enabled = true) :
    g.sample settling (-131072) =
      { raw := some (-131072), force := -32768, sat := true, settling := settling } := by
  simp [Segment.sample, hg, forceOf, satOf, atRail]

theorem forceOf_offRail {gain : Nat} {offset : Int} (ht : r ≠ 131071) (hb : r ≠ -131072) :
    forceOf gain offset r = clamp (-32768) 32767 (scaled gain offset r) :=
  (if_neg ht).trans (if_neg hb)

theorem satOf_offRail {gain : Nat} {offset : Int} (ht : r ≠ 131071) (hb : r ≠ -131072) :
    satOf gain offset r =
      decide (scaled gain offset r < -32768 ∨ 32767 < scaled gain offset r) := by
  have hr : atRail r = false := by simp [atRail, ht, hb]
  rw [satOf, hr, Bool.false_or, Bool.decide_or]

theorem sample_offRail (hg : g.enabled = true) (ht : r ≠ 131071) (hb : r ≠ -131072) :
    let q := roundDiv ((r - g.offset) * g.gain) 4096
    g.sample settling r =
      { raw := some r
        force := if q < -32768 then -32768 else if 32767 < q then 32767 else q
        sat := decide (q < -32768 ∨ 32767 < q), settling := settling } := by
  rw [Segment.sample, if_pos hg, forceOf_offRail ht hb, satOf_offRail ht hb]
  rfl

end sample

/-! ### The raw code of a bridge output (01 R1, R2) -/

/-- The step of the codes at each period (01 R2). -/
theorem codeStep_eq {p : Period} {step : Int}
    (h : (p, step) ∈ [(Period.us250, 8), (.us500, 4), (.us1000, 2), (.us2000, 1)]) :
    p.codeStep = step := by
  simp only [List.mem_cons, List.not_mem_nil, or_false, Prod.mk.injEq] at h
  rcases h with ⟨rfl, rfl⟩ | ⟨rfl, rfl⟩ | ⟨rfl, rfl⟩ | ⟨rfl, rfl⟩ <;> rfl

/-- The branches of a conversion, with the rails as numbers (01 R1, R2). -/
theorem convert_eq (p : Period) (b : Int) :
    convert p b = if 131071 ≤ b then 131071 else if b ≤ -131072 then -131072
      else if b % p.codeStep = 0 then b else coarseCode p b := rfl

theorem convert_top (p : Period) {b : Int} (h : 131071 ≤ b) : convert p b = 131071 := if_pos h

theorem convert_bottom (p : Period) {b : Int} (h : b ≤ -131072) : convert p b = -131072 :=
  (convert_eq p b).trans ((if_neg (by omega)).trans (if_pos h))

/-- Every code of the period converts to itself. -/
theorem convert_code {p : Period} {b : Int} (hl : -131072 ≤ b) (hh : b ≤ 131071)
    (hd : p.codeStep ∣ b) : convert p b = b := by
  rw [convert_eq]
  split
  · omega
  · split
    · omega
    · exact if_pos (Int.emod_eq_zero_of_dvd hd)

/-- A free code of the period lies between the rails, and is a multiple of the step. -/
theorem coarseCode_range (p : Period) (b : Int) :
    -131072 ≤ coarseCode p b ∧ coarseCode p b ≤ 131071 ∧ p.codeStep ∣ coarseCode p b := by
  have hc := clamp_range (lo := -131072 / p.codeStep + 1)
    (hi := 131071 / p.codeStep) (x := Config.coarse p.codeStep b) (by cases p <;> decide)
  have eq : coarseCode p b = clamp (-131072 / p.codeStep + 1) (131071 / p.codeStep)
      (Config.coarse p.codeStep b) * p.codeStep := rfl
  generalize clamp _ _ _ = x at hc eq
  rw [eq]
  refine ⟨?_, ?_, Dvd.intro_left x rfl⟩
  all_goals cases p <;> simp only [Period.codeStep] at hc ⊢ <;> omega

/-- Every output is converted to the top rail or to a multiple of the step, within the scale. -/
theorem convert_range (p : Period) (b : Int) :
    -131072 ≤ convert p b ∧ convert p b ≤ 131071 ∧
      (convert p b = 131071 ∨ p.codeStep ∣ convert p b) := by
  rw [convert_eq]
  split
  · exact ⟨by decide, by decide, .inl rfl⟩
  · split
    · exact ⟨by decide, by decide, .inr (by cases p <;> decide)⟩
    · split
      · next hd => exact ⟨by omega, by omega, .inr (Int.dvd_of_emod_eq_zero hd)⟩
      · obtain ⟨low, high, hd⟩ := coarseCode_range p b
        exact ⟨low, high, .inr hd⟩

/-- Settles O34: rounding, the sample of a raw code at each rail and between, and the raw code of an
output by the branches of R1 and R2. -/
theorem forcesFollowFromBridgeOutputs : Obligations.ForcesFollowFromBridgeOutputs := by
  refine ⟨⟨fun n d hd => roundDiv_nearest n hd, fun g settling r hg _ _ => ?_⟩,
    fun p step b hp => ?_⟩
  · refine ⟨?_, ?_, sample_offRail hg⟩
    · rintro rfl; exact sample_topRail hg
    · rintro rfl; exact sample_bottomRail hg
  · obtain rfl := codeStep_eq hp
    exact ⟨convert_top p, convert_bottom p, convert_code, convert_range p b⟩

end Sys2Proof.Machine
end

section
/-! SUPPORT. The close of a conversion round (01 R3 to R5, R8 to R10, 05 R87 to R89): what it
writes, what it counts, and the steps it makes due. -/

namespace Sys2Proof.Machine

/-! ### What a close writes, block by block -/

/-- A settle round writes the latest set, the settle count and the due list. -/
theorem settleRound_eq (set : SampleSet) (s : State) :
    settleRound set s = { s with
      acq := { s.acq with latest := set, settleCount := s.acq.settleCount - 1 }
      due := s.due ++ listIf (s.acq.settleCount - 1 == 0 && s.cal.awaitsSettle) .settleEnd } := rfl

/-- The guard unit after a publication, which examines trips or leaves the counts alone (05 R87). -/
def State.examinedGuard (set : SampleSet) (s : State) : Guard :=
  if s.examinesTrips then s.guard.examine s.acq.segs set s.stroke.params.totalLimit else s.guard

/-- The trips a publication makes due (05 R87 to R89). -/
def State.tripsDue (set : SampleSet) (s : State) : List Due :=
  if s.examinesTrips then
    tripDues s.stroke.params (s.acq.publish set) set (s.examinedGuard set)
  else []

/-- The calibration unit after a round outside a settle (02 R28, R31). -/
def Cal.closed (set : SampleSet) (c : Cal) : Cal := { c with run := c.run.map (CalRun.close set) }

/-- The steps a publication makes due: rail pairs and trips in a free order, then the operation's
own (logs 2, 7 and 34). -/
def State.publicationDues (set : SampleSet) (s : State) : List Due :=
  inFreeOrder s.freeCount (bottomDues s.acq (s.acq.publish set))
    (overrangeDues s.acq (s.acq.publish set)) (s.tripsDue set) ++ (s.cal.closed set).dues

/-- What a publication writes: four blocks, the due list, and the counter of free choices. -/
theorem publishRound_eq (set : SampleSet) (s : State) :
    publishRound set s = { s with
      acq := s.acq.publish set
      cal := s.cal.closed set
      pos := { s.pos with roundSinceLatch := true }
      guard := s.examinedGuard set
      due := s.due ++ s.publicationDues set
      freeCount := if needsOrder (bottomDues s.acq (s.acq.publish set))
          (overrangeDues s.acq (s.acq.publish set)) (s.tripsDue set) then s.freeCount + 1
        else s.freeCount } := by
  have tick (a b c : List Due) (u : State) : tickIfOrdered a b c u =
      { u with freeCount := if needsOrder a b c then u.freeCount + 1 else u.freeCount } := by
    unfold tickIfOrdered
    split <;> rfl
  have examine (u : State) : (if u.examinesTrips then examineTrips set u else u) =
      { u with guard := u.examinedGuard set } := by
    unfold State.examinedGuard
    split <;> rfl
  unfold State.publicationDues publishRound
  rw [← List.append_assoc]
  simp only [tick, examine]
  rfl

/-! ### The close itself -/

/-- A close before it answers a SNAPSHOT: a settle round or a publication (01 R3 to R5). -/
def closedRound (bridges : List Int) (s : State) : State :=
  if 0 < s.acq.settleCount then settleRound (sampleSet s.acq bridges) s
  else publishRound (sampleSet s.acq bridges) s

theorem roundClose_eq (bridges : List Int) (s : State) :
    roundClose bridges s = closeSnapshot (closedRound bridges s) := rfl

theorem closedRound_settling {bridges : List Int} {s : State} (h : s.acq.settleCount ≠ 0) :
    closedRound bridges s = settleRound (sampleSet s.acq bridges) s :=
  if_pos (Nat.pos_of_ne_zero h)

theorem closedRound_settled {bridges : List Int} {s : State} (h : s.acq.settleCount = 0) :
    closedRound bridges s = publishRound (sampleSet s.acq bridges) s :=
  if_neg (by omega)

/-- The blocks that no close writes. -/
theorem closedRound_frame (bridges : List Int) (s : State) :
    let t := closedRound bridges s
    t.held = s.held ∧ t.profile = s.profile ∧ t.stroke = s.stroke ∧ t.map = s.map ∧
      t.engine = s.engine ∧ t.lines = s.lines ∧ t.link = s.link := by
  by_cases h : s.acq.settleCount = 0
  · rw [closedRound_settled h, publishRound_eq]
    exact ⟨rfl, rfl, rfl, rfl, rfl, rfl, rfl⟩
  · rw [closedRound_settling h]
    exact ⟨rfl, rfl, rfl, rfl, rfl, rfl, rfl⟩

/-- A close keeps the records and the period, and its set becomes the latest (01 R3). -/
theorem closedRound_acq (bridges : List Int) (s : State) :
    let a := (closedRound bridges s).acq
    a.latest = sampleSet s.acq bridges ∧ a.segs = s.acq.segs ∧ a.period = s.acq.period := by
  by_cases h : s.acq.settleCount = 0
  · rw [closedRound_settled h, publishRound_eq]
    exact ⟨rfl, rfl, rfl⟩
  · rw [closedRound_settling h]
    exact ⟨rfl, rfl, rfl⟩

/-- With no SNAPSHOT waiting, the command of a ready part is the close alone. -/
theorem exec_close_ready {bridges : List Int} {s : State} (h : s.Ready)
    (hb : s.link.buffer ≠ .snapshot) :
    exec (.conversionRoundClose bridges) s = .next (closedRound bridges s) := by
  obtain ⟨-, -, -, -, -, -, hl⟩ := closedRound_frame bridges s
  refine (live_ready h (roundClose bridges)).trans ?_
  rw [roundClose_eq, closeSnapshot_other (by rwa [hl]), transmit_fed (by rw [hl]; exact h.fed)]

/-- The sample of each segment at a close (01 R3). -/
theorem sampleSet_getElem? {a : Acq} {bridges : List Int} {n : Nat} {g : Segment}
    (h : a.segs[n]? = some g) :
    (sampleSet a bridges).samples[n]? =
      some (g.sample (decide (0 < a.settleCount)) (convert a.period (bridges.getD n 0))) := by
  simp [sampleSet, samplesOf, h, bridgeAt]

/-- A disabled segment gives no raw code and force 0, whatever its output (01 R1). -/
theorem Segment.sample_eq (g : Segment) (settling : Bool) (raw : Int) :
    g.sample settling raw =
      if g.enabled then g.sample settling raw
      else { raw := none, force := 0, sat := false, settling := false } := by
  split
  · rfl
  · next h => exact if_neg h

/-- An operation waits for the end of the settle in the phase WAIT_SETTLE (02 R27). -/
theorem awaitsSettle_iff (c : Cal) :
    c.awaitsSettle = true ↔ ∃ r, c.run = some r ∧ r.phase = .waitSettle := by
  simp [Cal.awaitsSettle, Option.any_eq_true]

/-- What a settle round writes (01 R4): the count falls by one, and at the last one a waiting
operation has SETTLE_END due. -/
theorem settleRound_counts {set : SampleSet} {s : State} {k : Nat} (hd : s.due = [])
    (hk : s.acq.settleCount = k + 1) :
    (settleRound set s).acq.settleCount = k ∧
      (settleRound set s).due =
        if k = 0 ∧ (∃ r, s.cal.run = some r ∧ r.phase = .waitSettle) then [.settleEnd] else [] := by
  rw [settleRound_eq, hk, hd]
  refine ⟨rfl, ?_⟩
  simp [listIf, awaitsSettle_iff]

/-- Settles O35, by what a settle round and a publication write. -/
theorem roundCloseFormsTheSampleSet : Obligations.RoundCloseFormsTheSampleSet := by
  intro bridges s h hb
  obtain ⟨held, profile, stroke, map, engine, lines, link⟩ := closedRound_frame bridges s
  obtain ⟨latest, segs, period⟩ := closedRound_acq bridges s
  refine ⟨closedRound bridges s, exec_close_ready h hb, fun n g hg => ?_, ?_, ?_, segs, period,
    stroke, profile, map, engine, lines, link, held, fun k hk => ?_, fun hz => ?_⟩
  · rw [latest, sampleSet_getElem? hg, Segment.sample_eq]
    simp only [Nat.pos_iff_ne_zero]
  · rw [latest]
    exact List.length_mapIdx
  · rw [latest]
    rfl
  · rw [closedRound_settling (by omega)]
    obtain ⟨count, due⟩ := settleRound_counts (set := sampleSet s.acq bridges) h.quiet hk
    exact ⟨count, rfl, rfl, rfl, rfl, rfl, rfl, due⟩
  · rw [closedRound_settled hz, publishRound_eq]
    exact ⟨hz, rfl, rfl⟩

/-! ### Counts -/

theorem satSucc_eq_min (limit n : Nat) : satSucc limit n = min limit (n + 1) := by
  unfold satSucc
  split <;> omega

/-- A count that is not the value a missing entry reads is held by the list. -/
theorem getD_eq_iff {counts : List Nat} {n c : Nat} (hc : c ≠ 0) :
    counts.getD n 0 = c ↔ counts[n]? = some c := by
  rw [List.getD_eq_getElem?_getD]
  cases counts[n]? with
  | none => simpa using hc.symm
  | some x => simp

section sample

variable {set : SampleSet} {n : Nat} {x : Sample}

theorem SampleSet.at_eq (h : set.samples[n]? = some x) : set.at n = x := by
  simp [SampleSet.at, h]

theorem Acq.seg_eq {a : Acq} {g : Segment} (h : a.segs[n]? = some g) : a.seg n = g := by
  simp [Acq.seg, h]

theorem pairCounts_getElem? {segs : List Segment} {g : Segment} (rail : Sample → Bool)
    (counts : List Nat) (hg : segs[n]? = some g) (hx : set.samples[n]? = some x) :
    (pairCounts segs set rail counts)[n]? =
      counts[n]?.map fun c =>
        if g.enabled = false then c else if rail x = true then min 2 (c + 1) else 0 := by
  simp [pairCounts, List.getElem?_mapIdx, hg, SampleSet.at_eq hx, pairCount, satSucc_eq_min]

end sample

/-! ### The steps a publication makes due -/

/-- A free order leaves out nothing and adds nothing. -/
theorem mem_inFreeOrder {α : Type} {x : α} (n : Nat) (a b c : List α) :
    x ∈ inFreeOrder n a b c ↔ x ∈ a ∨ x ∈ b ∨ x ∈ c := by
  have perm (k : Fin 6) : x ∈ permute3 k a b c ↔ x ∈ a ∨ x ∈ b ∨ x ∈ c := by
    unfold permute3
    split <;> simp only [List.mem_append] <;> tauto
  unfold inFreeOrder
  split
  · exact perm _
  · simp

/-- A running operation makes only its own steps due (02 R28, R31). -/
theorem Cal.mem_dues {c : Cal} {d : Due} (h : d ∈ c.dues) :
    d = .shuntWaitEnd ∨ d = .tareCompletion ∨ d = .shuntGroupJudged := by
  have single {p : Bool} {e : Due} (h : d ∈ listIf p e) : d = e := by
    cases p
    · exact absurd h List.not_mem_nil
    · exact List.mem_singleton.mp h
  unfold Cal.dues at h
  split at h
  · unfold CalRun.dues at h
    split at h
    · exact absurd h List.not_mem_nil
    · exact .inl (single h)
    · exact .inr (.inl (single h))
    · exact .inr (.inr (single h))
  · exact absurd h List.not_mem_nil

section dues

variable {set : SampleSet} {s : State}

theorem mem_publicationDues {d : Due} :
    d ∈ s.publicationDues set ↔
      (d ∈ bottomDues s.acq (s.acq.publish set) ∨ d ∈ overrangeDues s.acq (s.acq.publish set) ∨
        d ∈ s.tripsDue set) ∨ d ∈ (s.cal.closed set).dues := by
  rw [State.publicationDues, List.mem_append, mem_inFreeOrder]

/-- A publication gives at most one trip, of a segment or of the total (05 R88, R89). -/
theorem tripsDue_cases : s.tripsDue set = [] ∨ (∃ n f, s.tripsDue set = [.tripSegment n f]) ∨
    ∃ f, s.tripsDue set = [.tripTotal f] := by
  unfold State.tripsDue tripDues
  split
  · split
    · exact .inr (.inl ⟨_, _, rfl⟩)
    · split
      · exact .inr (.inr ⟨_, rfl⟩)
      · exact .inl rfl
  · exact .inl rfl

/-- A segment completes a pair where its count goes from 1 to 2. -/
theorem mem_reachedPair {before after : List Nat} {n : Nat} (h : before.length = 64) :
    n ∈ reachedPair before after ↔ before[n]? = some 1 ∧ after[n]? = some 2 := by
  have hn (e : before[n]? = some 1) : n < 64 := h ▸ (List.getElem?_eq_some_iff.mp e).1
  simp only [reachedPair, List.mem_filter, List.mem_range, Bool.and_eq_true, beq_iff_eq,
    getD_eq_iff one_ne_zero, getD_eq_iff two_ne_zero]
  tauto

theorem overrange_mem {n : Nat} (h : s.acq.topPairs.length = 64) :
    Due.overrange n ∈ s.publicationDues set ↔
      s.acq.topPairs[n]? = some 1 ∧ (s.acq.publish set).topPairs[n]? = some 2 := by
  have hc : Due.overrange n ∉ (s.cal.closed set).dues := fun hm => by
    rcases Cal.mem_dues hm with e | e | e <;> cases e
  have ht : Due.overrange n ∉ s.tripsDue set := by
    rcases tripsDue_cases (set := set) (s := s) with e | ⟨_, _, e⟩ | ⟨_, e⟩ <;> simp [e]
  rw [mem_publicationDues]
  simp [hc, ht, bottomDues, overrangeDues, mem_reachedPair h]

theorem bottomRail_mem {n : Nat} (h : s.acq.bottomPairs.length = 64) :
    Due.bottomRail n ∈ s.publicationDues set ↔
      (s.acq.bottomPairs[n]? = some 1 ∧ (s.acq.publish set).bottomPairs[n]? = some 2) ∧
        (s.acq.seg n).status ≠ .opened := by
  have hc : Due.bottomRail n ∉ (s.cal.closed set).dues := fun hm => by
    rcases Cal.mem_dues hm with e | e | e <;> cases e
  have ht : Due.bottomRail n ∉ s.tripsDue set := by
    rcases tripsDue_cases (set := set) (s := s) with e | ⟨_, _, e⟩ | ⟨_, e⟩ <;> simp [e]
  rw [mem_publicationDues]
  simp [hc, ht, bottomDues, overrangeDues, mem_reachedPair h]

theorem trip_mem {d : Due} (h : (∃ n f, d = .tripSegment n f) ∨ ∃ f, d = .tripTotal f) :
    d ∈ s.publicationDues set ↔ d ∈ s.tripsDue set := by
  have hc : d ∉ (s.cal.closed set).dues := fun hm => by
    rcases h with ⟨n, f, rfl⟩ | ⟨f, rfl⟩ <;> rcases Cal.mem_dues hm with e | e | e <;> cases e
  rw [mem_publicationDues]
  rcases h with ⟨n, f, rfl⟩ | ⟨f, rfl⟩ <;> simp [hc, bottomDues, overrangeDues]

end dues

/-! ### Trips (05 R87 to R89) -/

/-- A table of 64 entries holds every number below 64. -/
theorem exists_getElem?_of_length {α : Type} {l : List α} {n : Nat} (hl : l.length = 64)
    (hn : n < 64) : ∃ x, l[n]? = some x :=
  ⟨l[n], List.getElem?_eq_getElem (hl ▸ hn)⟩

section trips

variable {s t : State}

/-- A trip of a segment, in the terms the model tests it in: a record, a sample and a count of every
number below 64 stand in their tables. -/
theorem tripsSegment_iff (hg : s.acq.segs.length = 64) (hx : t.acq.latest.samples.length = 64)
    (hc : t.guard.segPersist.length = 64) (n : Nat) :
    s.tripsSegment t n ↔ n < 64 ∧
      (exceedsLimit (s.acq.seg n) (t.acq.latest.at n) &&
        decide (s.stroke.params.segPersistence ≤ t.guard.segPersist.getD n 0)) = true := by
  constructor
  · rintro ⟨g, x, c, hgn, he, hxn, hlim, hcn, hns⟩
    refine ⟨hg ▸ (List.getElem?_eq_some_iff.mp hgn).1, ?_⟩
    simp [Acq.seg_eq hgn, SampleSet.at_eq hxn, hcn, exceedsLimit, he, hlim, hns]
  · rintro ⟨hn, h⟩
    obtain ⟨g, hgn⟩ := exists_getElem?_of_length hg hn
    obtain ⟨x, hxn⟩ := exists_getElem?_of_length hx hn
    obtain ⟨c, hcn⟩ := exists_getElem?_of_length hc hn
    simp only [Acq.seg_eq hgn, SampleSet.at_eq hxn, hcn, exceedsLimit, List.getD_eq_getElem?_getD,
      Option.getD_some, Bool.and_eq_true, decide_eq_true_eq] at h
    obtain ⟨⟨he, hlim⟩, hns⟩ := h
    exact ⟨g, x, c, hgn, he, hxn, hlim, hcn, hns⟩

/-- The lowest segment that trips (05 R88). -/
theorem tripSegmentOf_eq_some (hg : s.acq.segs.length = 64)
    (hx : t.acq.latest.samples.length = 64) (hc : t.guard.segPersist.length = 64) (n : Nat) :
    tripSegmentOf s.acq t.acq.latest s.stroke.params.segPersistence t.guard.segPersist = some n ↔
      s.tripsSegment t n ∧ ∀ k < n, ¬s.tripsSegment t k := by
  simp only [tripSegmentOf, List.find?_range_eq_some, tripsSegment_iff hg hx hc, List.mem_range]
  constructor
  · rintro ⟨h, hn, low⟩
    exact ⟨⟨hn, h⟩, fun k hk hp => absurd (low k hk) (by rw [hp.2]; decide)⟩
  · rintro ⟨⟨hn, h⟩, low⟩
    refine ⟨h, hn, fun k hk => ?_⟩
    rw [Bool.not_eq_true', Bool.eq_false_iff]
    exact fun hp => low k hk ⟨hk.trans hn, hp⟩

/-- No segment trips. -/
theorem tripSegmentOf_eq_none (hg : s.acq.segs.length = 64)
    (hx : t.acq.latest.samples.length = 64) (hc : t.guard.segPersist.length = 64) :
    tripSegmentOf s.acq t.acq.latest s.stroke.params.segPersistence t.guard.segPersist = none ↔
      ∀ k, ¬s.tripsSegment t k := by
  simp [tripSegmentOf, tripsSegment_iff hg hx hc]

end trips

section examined

variable {set : SampleSet} {s : State}

theorem examinedGuard_not_examines (h : s.examinesTrips = false) :
    s.examinedGuard set = s.guard := by
  simp [State.examinedGuard, h]

theorem examinedGuard_examines (h : s.examinesTrips = true) :
    s.examinedGuard set = s.guard.examine s.acq.segs set s.stroke.params.totalLimit := by
  simp [State.examinedGuard, h]

theorem examinedGuard_persistCount (h : s.guard.segPersist.length = 64) :
    (s.examinedGuard set).segPersist.length = 64 := by
  unfold State.examinedGuard
  split
  · simpa [Guard.examine] using h
  · exact h

theorem persistCount_eq (p : Prop) [Decidable p] (n : Nat) :
    persistCount (decide p) n = if p then min 16 (n + 1) else 0 := by
  simp [persistCount, satSucc_eq_min]

/-- The persistence count of a segment after an examined publication (05 R88). -/
theorem examine_segPersist {g : Guard} {segs : List Segment} {limit n : Nat} {r : Segment}
    {x : Sample} (hr : segs[n]? = some r) (hx : set.samples[n]? = some x) :
    (g.examine segs set limit).segPersist[n]? = g.segPersist[n]?.map fun c =>
      if r.enabled = true ∧ (r.tripLimit : Int) < x.force then min 16 (c + 1) else 0 := by
  have he : exceedsLimit r x = decide (r.enabled = true ∧ (r.tripLimit : Int) < x.force) := by
    simp [exceedsLimit]
  simp only [Guard.examine, List.getElem?_mapIdx, List.getD_eq_getElem?_getD, hr, Option.getD_some,
    SampleSet.at_eq hx, he, persistCount_eq]

/-- An examined publication writes the persistence counts alone (05 R88, R89). -/
theorem examine_eq (g : Guard) (segs : List Segment) (limit : Nat) :
    g.examine segs set limit = { g with
      segPersist := (g.examine segs set limit).segPersist
      totalPersist := if (limit : Int) < set.total then min 16 (g.totalPersist + 1) else 0 } := by
  rw [← persistCount_eq]
  rfl

/-- The segment trip of an examined publication is that of the lowest segment that trips. -/
theorem tripSegment_mem_tripDues {p : Params} {a : Acq} {g : Guard} {n : Nat} {f : Int} :
    Due.tripSegment n f ∈ tripDues p a set g ↔
      tripSegmentOf a set p.segPersistence g.segPersist = some n ∧ (set.at n).force = f := by
  unfold tripDues
  split
  · next m e =>
    rw [e, List.mem_singleton, Due.tripSegment.injEq, Option.some.injEq]
    constructor
    · rintro ⟨rfl, rfl⟩; exact ⟨rfl, rfl⟩
    · rintro ⟨rfl, rfl⟩; exact ⟨rfl, rfl⟩
  · next e => simp [e]

/-- The total trips only where no segment does (05 R89). -/
theorem tripTotal_mem_tripDues {p : Params} {a : Acq} {g : Guard} {f : Int} :
    Due.tripTotal f ∈ tripDues p a set g ↔
      tripSegmentOf a set p.segPersistence g.segPersist = none ∧ f = set.total ∧
        (p.totalLimit : Int) < f ∧ p.totalPersistence ≤ g.totalPersist := by
  unfold tripDues
  split
  · next m e => simp [e]
  · next e =>
    split
    · next h =>
      simp only [Bool.and_eq_true, decide_eq_true_eq] at h
      simp only [e, List.mem_singleton, Due.tripTotal.injEq, true_and]
      exact ⟨fun hf => ⟨hf, hf ▸ h.1, h.2⟩, fun hf => hf.1⟩
    · next h =>
      simp only [Bool.and_eq_true, decide_eq_true_eq] at h
      refine iff_of_false List.not_mem_nil ?_
      rintro ⟨-, rfl, hlim, hnt⟩
      exact h ⟨hlim, hnt⟩

theorem mem_tripsDue {d : Due} :
    d ∈ s.tripsDue set ↔ s.examinesTrips = true ∧
      d ∈ tripDues s.stroke.params (s.acq.publish set) set (s.examinedGuard set) := by
  unfold State.tripsDue
  split
  · next h => simp [h]
  · next h => simp [h]

end examined

/-! ### The statement -/

theorem publishRound_acq (set : SampleSet) (s : State) :
    (publishRound set s).acq = s.acq.publish set := by rw [publishRound_eq]

theorem publishRound_guard (set : SampleSet) (s : State) :
    (publishRound set s).guard = s.examinedGuard set := by rw [publishRound_eq]

theorem publishRound_due (set : SampleSet) {s : State} (h : s.due = []) :
    (publishRound set s).due = s.publicationDues set := by
  rw [publishRound_eq, h, List.nil_append]

section publication

variable {set : SampleSet} {s : State}

/-- The segment that trips at a publication, and its force (05 R88). -/
theorem tripSegment_mem (hs : s.StoreBounds) (hx : set.samples.length = 64) {n : Nat} {f : Int} :
    Due.tripSegment n f ∈ s.publicationDues set ↔ s.examinesTrips = true ∧
      s.tripsSegment (publishRound set s) n ∧
      (∀ k < n, ¬s.tripsSegment (publishRound set s) k) ∧
      ∃ x, set.samples[n]? = some x ∧ x.force = f := by
  have first := tripSegmentOf_eq_some (t := publishRound set s) hs.segments
    (by rw [publishRound_acq]; exact hx)
    (by rw [publishRound_guard]; exact examinedGuard_persistCount hs.persistCount) n
  rw [publishRound_guard, publishRound_acq] at first
  have force (ht : s.tripsSegment (publishRound set s) n) :
      (set.at n).force = f ↔ ∃ x, set.samples[n]? = some x ∧ x.force = f := by
    obtain ⟨g, x, c, -, -, hxn, -⟩ := ht
    rw [publishRound_acq] at hxn
    have hxn : set.samples[n]? = some x := hxn
    simp [SampleSet.at_eq hxn, hxn]
  rw [trip_mem (.inl ⟨n, f, rfl⟩), mem_tripsDue, tripSegment_mem_tripDues]
  refine and_congr_right fun _ => (and_congr_left' first).trans ?_
  rw [and_assoc]
  exact and_congr_right fun ht => and_congr_right fun _ => force ht

/-- The total trips where no segment does (05 R89). -/
theorem tripTotal_mem (hs : s.StoreBounds) (hx : set.samples.length = 64) {f : Int} :
    Due.tripTotal f ∈ s.publicationDues set ↔ s.examinesTrips = true ∧
      (∀ k, ¬s.tripsSegment (publishRound set s) k) ∧ f = set.total ∧
      (s.stroke.params.totalLimit : Int) < f ∧
      s.stroke.params.totalPersistence ≤ (s.examinedGuard set).totalPersist := by
  have none := tripSegmentOf_eq_none (t := publishRound set s) hs.segments
    (by rw [publishRound_acq]; exact hx)
    (by rw [publishRound_guard]; exact examinedGuard_persistCount hs.persistCount)
  rw [publishRound_guard, publishRound_acq] at none
  rw [trip_mem (.inr ⟨f, rfl⟩), mem_tripsDue, tripTotal_mem_tripDues]
  exact and_congr_right fun _ => and_congr_left' none

end publication

/-- Settles O36: the counts entry by entry, and each kind of due step by its own membership. -/
theorem publicationCountsRailsAndTrips : Obligations.PublicationCountsRailsAndTrips := by
  intro bridges s h hb hz hs
  have hx : (sampleSet s.acq bridges).samples.length = 64 :=
    (sampleSet_inRange hs.segments bridges).count
  have hexec := exec_close_ready h hb (bridges := bridges)
  rw [closedRound_settled hz] at hexec
  generalize sampleSet s.acq bridges = set at hx hexec
  have acq := publishRound_acq set s
  have guard := publishRound_guard set s
  have due := publishRound_due set h.quiet
  refine ⟨publishRound set s, hexec, fun n g x hg hxn => ?_, ?_⟩
  · rw [acq] at hxn
    rw [acq, guard, due]
    refine ⟨?_, ?_, overrange_mem hs.topCount, ?_, fun he => ?_⟩
    · exact (pairCounts_getElem? Sample.atTop _ hg hxn).trans (by simp [Sample.atTop])
    · exact (pairCounts_getElem? Sample.atBottom _ hg hxn).trans (by simp [Sample.atBottom])
    · rw [bottomRail_mem hs.bottomCount, Acq.seg_eq hg, and_assoc]
    · rw [examinedGuard_examines he]
      exact examine_segPersist hg hxn
  · rw [guard, due, acq]
    refine ⟨examinedGuard_not_examines, fun he => ?_, fun n f => tripSegment_mem hs hx,
      fun f => tripTotal_mem hs hx⟩
    rw [examinedGuard_examines he]
    exact examine_eq _ _ _

end Sys2Proof.Machine
end

section
/-! SUPPORT. GET_SEGMENT and SNAPSHOT (01 R18, R19). -/

namespace Sys2Proof.Machine

/-! ### GET_SEGMENT (01 R18) -/

theorem serveGetSegment_field {n : Byte} {s : State} (h : 63 < n.toNat) :
    serveGetSegment n s = (s, .refusal .field) := if_pos h

theorem serveGetSegment_ok {n : Byte} {s : State} {g : Segment} (hn : n.toNat ≤ 63)
    (hg : s.acq.segs[n.toNat]? = some g) :
    serveGetSegment n s = (s, .okWith ([n] ++ u8 (if g.enabled then 1 else 0) ++
      u8 (if g.masked then 1 else 0) ++ u16 g.gain ++ i16 g.offset ++ u16 g.shuntRef ++
      u16 g.tripLimit ++ u8 g.status.code)) := by
  have number : u8 n.toNat = [n] := by simp [u8]
  simp only [serveGetSegment, if_neg (Nat.not_lt.mpr hn), Acq.seg_eq hg, segmentBody, number]
  rfl

/-! ### SNAPSHOT (01 R19) -/

/-- A reply behind the queue of a fed link is sent at once by a free transmitter, also while steps
other than a tool reset are due. -/
theorem transmit_queued {u : State} {l : Link} {r : Reply} (hd : Due.toolReset ∉ u.due)
    (hf : l.fed) (hb : l.buffer = .empty) :
    transmit true { u with link := { l with replies := l.replies ++ [r] } } =
      { u with link := l.replied r } := by
  cases hs : l.sending with
  | some f =>
    rw [transmit_busy (by simp)]
    simp [Link.replied, hs]
  | none =>
    obtain ⟨replies, reports⟩ := hf hs
    unfold transmit sendReply
    simp [hs, hd, hb, replies, reports, State.onLink, Link.replyDue, Link.replied]

/-- The reply to a SNAPSHOT, field by field. -/
theorem snapshotReply_eq (s : State) :
    replyTo Request.snapshot.kind .ok (snapshotBody s.acq.latest) = snapshotOf s := by
  have entry (x : Sample) : x.bytes =
      i16 x.force ++ u8 ((if x.sat then 1 else 0) + (if x.settling then 2 else 0)) := by
    cases hs : x.sat <;> cases ht : x.settling <;> simp [Sample.bytes, bit, hs, ht]
  have kind : replyKind Request.snapshot.kind = 0x8B#8 := by decide
  simp only [replyTo, snapshotBody, snapshotOf, kind, funext entry]

/-- A SNAPSHOT that waits is answered with the latest set, and the buffer frees. -/
theorem answerSnapshot_waiting {s : State} (hb : s.link.buffer = .snapshot)
    (hr : s.link.replies.length < 4) :
    answerSnapshot s = { s with
      link := { s.link with replies := s.link.replies ++ [snapshotOf s], buffer := .empty } } := by
  unfold answerSnapshot
  rw [hb]
  simp only
  rw [snapshotReply_eq, place_made hr rfl]

/-- An answered SNAPSHOT is sent or queued. -/
theorem transmit_answerSnapshot {s : State} (hb : s.link.buffer = .snapshot)
    (hr : s.link.replies.length < 4) (hd : Due.toolReset ∉ s.due) (hf : s.link.fed) :
    transmit true (answerSnapshot s) = { s with
      link := { s.link with buffer := .empty }.replied (snapshotOf s) } := by
  rw [answerSnapshot_waiting hb hr]
  exact transmit_queued (l := { s.link with buffer := .empty }) hd hf rfl

/-- A close makes no tool reset due. -/
theorem closedRound_due {bridges : List Int} {s : State} (h : s.due = []) :
    Due.toolReset ∉ (closedRound bridges s).due := by
  by_cases hz : s.acq.settleCount = 0
  · rw [closedRound_settled hz, publishRound_due _ h, mem_publicationDues]
    rintro ((hm | hm | hm) | hm)
    · simp [bottomDues] at hm
    · simp [overrangeDues] at hm
    · obtain e | ⟨_, _, e⟩ | ⟨_, e⟩ := tripsDue_cases (set := sampleSet s.acq bridges) (s := s) <;>
        simp [e] at hm
    · rcases Cal.mem_dues hm with e | e | e <;> cases e
  · rw [closedRound_settling hz, settleRound_eq, h]
    simp [listIf]

/-- A close reads and writes nothing of the link. -/
theorem closedRound_withLink (bridges : List Int) (s : State) (l : Link) :
    closedRound bridges { s with link := l } = { closedRound bridges s with link := l } := by
  by_cases hz : s.acq.settleCount = 0
  · rw [closedRound_settled hz, closedRound_settled (s := { s with link := l }) hz,
      publishRound_eq, publishRound_eq]
    rfl
  · rw [closedRound_settling hz, closedRound_settling (s := { s with link := l }) hz]
    rfl

/-- A close ties a SNAPSHOT with the reports of its due steps where a free transmitter finds some
due. -/
theorem snapshotTies_iff {s : State} (hb : s.link.buffer = .snapshot) (hf : s.link.fed) :
    s.snapshotTies = true ↔ s.link.sending = none ∧ s.due ≠ [] := by
  simp only [State.snapshotTies, hb]
  cases hs : s.link.sending with
  | some f => simp
  | none => simp [(hf hs).1, (hf hs).2]

/-- A close that finds a SNAPSHOT answers it: the reply goes out or is queued, or, where it ties
with the reports of the due steps, either at once or behind them (10 R184, log 35). -/
theorem transmit_closeSnapshot {w : State} (hb : w.link.buffer = .snapshot)
    (hr : w.link.replies.length < 4) (hd : Due.toolReset ∉ w.due) (hf : w.link.fed) :
    let u : State := { w with link := { w.link with buffer := .empty } }
    let v : State := { u with freeCount := u.freeCount + 1 }
    let t := transmit true (closeSnapshot w)
    (w.link.sending.isSome = true ∨ u.due = [] →
      t = { u with link := u.link.replied (snapshotOf u) }) ∧
    (w.link.sending = none → u.due ≠ [] →
      t = { v with link := u.link.replied (snapshotOf u) } ∨
      t = { v with
        due := u.due ++ [.snapshotReply], link := { u.link with buffer := .snapshot } }) := by
  intro u v t
  have ties := snapshotTies_iff hb hf
  have tied (h : w.snapshotTies = true) : ¬(w.link.sending.isSome = true ∨ u.due = []) := by
    obtain ⟨sending, due⟩ := ties.mp h
    simp [sending, u, due]
  rcases closeSnapshot_cases w with ⟨ht, e⟩ | ⟨ht, e | e⟩
  · refine ⟨fun _ => ?_, fun hs hne => ?_⟩
    · exact (congrArg (transmit true) e).trans (transmit_answerSnapshot hb hr hd hf)
    · exact absurd (ties.mpr ⟨hs, hne⟩) (by simp [ht])
  · refine ⟨fun h => absurd h (tied ht), fun _ _ => .inl ?_⟩
    have tick : (answerSnapshot w).tickFree = answerSnapshot w.tickFree := by
      rw [answerSnapshot_waiting hb hr, answerSnapshot_waiting (s := w.tickFree) hb hr]
      rfl
    exact (congrArg (transmit true) (e.trans tick)).trans
      (transmit_answerSnapshot (s := w.tickFree) hb hr hd hf)
  · refine ⟨fun h => absurd h (tied ht), fun _ _ => .inr ?_⟩
    have link : ({ u.link with buffer := .snapshot } : Link) = w.link := by
      simp only [u, ← hb]
    rw [link]
    exact (congrArg (transmit true) e).trans (transmit_fed hf)

/-- A SNAPSHOT taken into the empty buffer holds it, and nothing is sent. -/
theorem exec_snapshot {s : State} (h : s.Serving) :
    exec .snapshot s = .next { s with link := { s.link.heard with buffer := .snapshot } } := by
  have buffer : s.link.heard.buffer = .empty := h.buffer
  have offered : offer Request.snapshot.kind serveSnapshot s =
      { s with link := { s.link.heard with buffer := .snapshot } } := by
    unfold offer
    have e : reloadWatchdog s = { s with link := s.link.heard } := rfl
    simp only [e, buffer]
    rfl
  refine (live_ready h.toReady _).trans (congrArg Host.Outcome.next ?_)
  rw [offered]
  exact transmit_fed h.toReady.fed

/-- Settles O13: the record read, the SNAPSHOT taken, and its answer at the close or behind it. -/
theorem segmentsAndSamplesAreRead : Obligations.SegmentsAndSamplesAreRead := by
  refine ⟨fun n s h => ⟨fun hn => ?_, fun g hn hg => ?_⟩,
    fun s => ⟨exec_snapshot, fun bridges h hb hr => ?_, fun hh hp hd hf hb hr => ?_⟩⟩
  · exact request_read h rfl (serveGetSegment_field hn)
  · exact request_read h rfl (serveGetSegment_ok hn hg)
  · have h' : State.Ready { s with link := { s.link with buffer := .empty } } :=
      ⟨h.runs, h.quiet, h.fed⟩
    have link : (closedRound bridges s).link = s.link := by
      obtain ⟨-, -, -, -, -, -, link⟩ := closedRound_frame bridges s
      exact link
    have hu := (exec_close_ready (bridges := bridges) h' nofun).trans
      (congrArg Host.Outcome.next (closedRound_withLink bridges s _))
    rw [← link] at hb hr hu ⊢
    exact ⟨_, _, live_ready h (roundClose bridges), hu,
      transmit_closeSnapshot hb hr (closedRound_due h.quiet) (by rw [link]; exact h.fed)⟩
  · have due : step s = .next (settle s) := by
      simp [step, hp, idle, hh, hd]
    rw [due, settle_owing hd]
    exact congrArg Host.Outcome.next
      (transmit_answerSnapshot (s := s.withDue []) hb hr List.not_mem_nil hf)

end Sys2Proof.Machine
end

section
/-! SUPPORT. TARE and SHUNT_CHECK (02 R24, R25): what their owner does in each case. -/

namespace Sys2Proof.Machine

/-- An accepted TARE, with the phase by the settle count (02 R24). -/
theorem acceptTare_eq (s : State) :
    acceptTare s = { s with
      cal := { s.cal with
        run := some
          { job := .tare
            phase := if s.acq.settleCount = 0 then .average else .waitSettle
            rounds := 0, participants := enabledSegments s
            sums := List.replicate 64 0, rails := List.replicate 64 false } } } := by
  unfold acceptTare
  by_cases h : s.acq.settleCount = 0
  · simp only [h, lt_irrefl, if_false, if_true]; rfl
  · simp only [h, Nat.pos_of_ne_zero h, if_false, if_true]; rfl

/-- An accepted SHUNT_CHECK (02 R25): outside a settle the switches of the first selected group
close. -/
theorem acceptShunt_eq (selection : Nat) (s : State) :
    acceptShunt selection s = { s with
      cal := { s.cal with
        run := some
          { job := .shunt (shuntJob selection s.stroke.params.tolerance)
            phase := if s.acq.settleCount = 0 then .shuntWait else .waitSettle
            rounds := 0, participants := enabledSegments s
            sums := List.replicate 64 0, rails := List.replicate 64 false }
        switches := if s.acq.settleCount = 0 then
            switchesFor ((selectedGroups selection).headD 0)
          else s.cal.switches } } := by
  unfold acceptShunt
  by_cases h : s.acq.settleCount = 0
  · simp only [h, lt_irrefl, decide_false, if_false, if_true, Bool.false_eq_true]; rfl
  · simp only [h, Nat.pos_of_ne_zero h, decide_true, if_false, if_true]; rfl

/-- The switches of the one group closed, those of the others open. -/
theorem switchesFor_eq (group : Nat) :
    switchesFor group = (List.range 4).map fun k => decide (k = group) := rfl

/-- The first group selected is the one whose switches close (02 R25). -/
theorem switchesFor_head {groups : List Nat} (h : groups ≠ []) :
    switchesFor (groups.headD 0) =
      (List.range 4).map fun k => decide (groups.head? = some k) := by
  cases groups with
  | nil => exact absurd rfl h
  | cons g rest => simp [switchesFor_eq, eq_comm]

theorem selectedGroups_ne_nil (selection : Nat) : selectedGroups selection ≠ [] := by
  unfold selectedGroups
  split <;> exact List.cons_ne_nil _ _

section serve

variable {s : State} {g : Byte}

theorem serveTare_busy (h : s.cal.run.isSome = true) : serveTare s = (s, .refusal .busy) :=
  if_pos h

theorem serveTare_state (hc : s.cal.run = none) (hi : s.stroke.state.idle = false) :
    serveTare s = (s, .refusal .state) := by
  simp [serveTare, hc, hi]

theorem serveTare_notHome (hc : s.cal.run = none) (hi : s.stroke.state.idle = true)
    (hh : s.home = false) : serveTare s = (s, .refusal .notHome) := by
  simp [serveTare, hc, hi, hh]

theorem serveTare_ok (hc : s.cal.run = none) (hi : s.stroke.state.idle = true)
    (hh : s.home = true) : serveTare s = (acceptTare s, .ok) := by
  simp [serveTare, hc, hi, hh]

theorem serveShuntCheck_busy (h : s.cal.run.isSome = true) :
    serveShuntCheck g s = (s, .refusal .busy) := if_pos h

theorem serveShuntCheck_state (hc : s.cal.run = none) (hi : s.stroke.state.idle = false) :
    serveShuntCheck g s = (s, .refusal .state) := by
  simp [serveShuntCheck, hc, hi]

theorem serveShuntCheck_field (hc : s.cal.run = none) (hi : s.stroke.state.idle = true)
    (hg : 4 < g.toNat) : serveShuntCheck g s = (s, .refusal .field) := by
  simp [serveShuntCheck, hc, hi, hg]

theorem serveShuntCheck_notHome (hc : s.cal.run = none) (hi : s.stroke.state.idle = true)
    (hg : g.toNat ≤ 4) (hh : s.home = false) :
    serveShuntCheck g s = (s, .refusal .notHome) := by
  simp [serveShuntCheck, hc, hi, hg.not_gt, hh]

theorem serveShuntCheck_ok (hc : s.cal.run = none) (hi : s.stroke.state.idle = true)
    (hg : g.toNat ≤ 4) (hh : s.home = true) :
    serveShuntCheck g s = (acceptShunt g.toNat s, .ok) := by
  simp [serveShuntCheck, hc, hi, hg.not_gt, hh]

end serve

/-- Settles O14, by the refusals of R24 and R25 in their order, and the two acceptances. -/
theorem calibrationIsAcceptedAtHome : Obligations.CalibrationIsAcceptedAtHome := by
  refine ⟨fun s h => ⟨fun hc => ?_, fun hc hi => ?_, fun hc hi hh => ?_, fun hc hi hh => ?_⟩,
    fun g s h => ⟨fun hc => ?_, fun hc hi => ?_, fun hc hi hg => ?_, fun hc hi hg hh => ?_,
      fun hc hi hg hh groups hgroups => ?_⟩⟩
  · exact request_read h rfl (serveTare_busy hc)
  · exact request_read h rfl (serveTare_state hc hi)
  · exact request_read h rfl (serveTare_notHome hc hi hh)
  · rw [← acceptTare_eq]
    exact request_acts h rfl (serveTare_ok hc hi hh) rfl h.toReady.quiet
  · exact request_read h rfl (serveShuntCheck_busy hc)
  · exact request_read h rfl (serveShuntCheck_state hc hi)
  · exact request_read h rfl (serveShuntCheck_field hc hi hg)
  · exact request_read h rfl (serveShuntCheck_notHome hc hi hg hh)
  · obtain rfl : groups = selectedGroups g.toNat := hgroups
    have accepted : execShuntCheck g s =
        .next ((acceptShunt g.toNat s).replied 0x0D#8 .ok []) :=
      request_acts h rfl (serveShuntCheck_ok hc hi hg hh) rfl h.toReady.quiet
    rw [acceptShunt_eq, switchesFor_head (selectedGroups_ne_nil _)] at accepted
    exact accepted

end Sys2Proof.Machine
end

section
/-! SUPPORT. The running calibration operation (02 R27 to R29, R31 to R35): its rounds, its phases,
and its ends. -/

namespace Sys2Proof.Machine

/-! ### A due step that leaves the link alone -/

/-- The one step that is due is taken by its command, and a fed link has nothing to send after it. -/
theorem liveDue_owing_silent {s t : State} {d : Due} {p : Due → Bool} (hh : s.held = false)
    (hf : s.link.fed) (hd : s.due = [d]) (hp : p d = true) (ht : takeDue d (s.withDue []) = t)
    (hl : t.link = s.link) : liveDue p s = .next t := by
  rw [liveDue_owing hh hd hp, ht, transmit_fed (hl ▸ hf)]

/-! ### The phases (02 R27, R31) -/

section phases

variable {s : State} {r : CalRun}

theorem settleEnd_tare (hr : s.cal.run = some r) (hp : r.phase = .waitSettle) (hj : r.job = .tare) :
    settleEnd s = { s with cal := { s.cal with
      run := some { r with phase := .average, rounds := 0 } } } := by
  simp [settleEnd, State.onCal, hr, hp, hj]

theorem settleEnd_shunt {j : ShuntJob} {g : Nat} {rest : List Nat} (hr : s.cal.run = some r)
    (hp : r.phase = .waitSettle) (hj : r.job = .shunt j) (hg : j.groups = g :: rest) :
    settleEnd s = { s with cal := { s.cal with
      run := some { r with phase := .shuntWait, rounds := 0 }, switches := switchesFor g } } := by
  simp [settleEnd, State.onCal, hr, hp, hj, hg]

theorem shuntWaitEnd_eq (hr : s.cal.run = some r) (hp : r.phase = .shuntWait) :
    shuntWaitEnd s = { s with cal := { s.cal with
      run := some { r with phase := .average, rounds := 0 } } } := by
  simp [shuntWaitEnd, State.onCal, hr, hp]

end phases

/-! ### The rounds (02 R28, R31, R32) -/

section rounds

variable {set : SampleSet} {r : CalRun}

theorem close_waitSettle (h : r.phase = .waitSettle) : r.close set = r := by
  simp [CalRun.close, h]

theorem close_shuntWait (h : r.phase = .shuntWait) :
    r.close set = { r with rounds := r.rounds + 1 } := by
  simp [CalRun.close, h]

theorem close_average (h : r.phase = .average) : r.close set = r.average set := by
  simp [CalRun.close, h]

/-- A round of a TARE adds every participant (02 R28). -/
theorem averaged_tare (h : r.job = .tare) : r.averaged = r.participants := by
  simp [CalRun.averaged, h]

/-- A round of a SHUNT_CHECK adds the participants of the current group (02 R32). -/
theorem mem_averaged_shunt {j : ShuntJob} {n : Nat} (h : r.job = .shunt j) :
    n ∈ r.averaged ↔ n ∈ r.participants ∧ j.groups.head? = some (n / 16) := by
  cases hg : j.groups with
  | nil => simp [CalRun.averaged, h, hg]
  | cons g rest =>
    simp only [CalRun.averaged, h, hg, List.mem_filter, beq_iff_eq, List.head?_cons,
      Option.some_inj, @eq_comm _ g]

/-- Only participants are added. -/
theorem mem_participants_of_averaged {n : Nat} (h : n ∈ r.averaged) : n ∈ r.participants := by
  cases hj : r.job with
  | tare => exact averaged_tare hj ▸ h
  | shunt j => exact ((mem_averaged_shunt hj).mp h).1

theorem addend_tare (h : r.job = .tare) (x : Sample) : r.addend x = x.raw.getD 0 := by
  simp [CalRun.addend, h]

theorem addend_shunt {j : ShuntJob} (h : r.job = .shunt j) (x : Sample) : r.addend x = x.force := by
  simp [CalRun.addend, h]

/-- A sample is at a rail by its raw code (02 R28, R32). -/
theorem Sample.railed_eq (x : Sample) :
    x.railed = decide (x.raw = some 131071 ∨ x.raw = some (-131072)) := by
  simp [Sample.railed, Sample.atTop, Sample.atBottom, Bool.beq_eq_decide_eq]

section entry

variable {n : Nat} {x : Sample} {a : Int} {b : Bool} (hx : set.samples[n]? = some x)
  (ha : r.sums[n]? = some a) (hb : r.rails[n]? = some b)

include ha hb

/-- A segment whose samples the round does not add. -/
theorem average_of_not_mem (h : n ∉ r.averaged) :
    (r.average set).sums[n]? = some a ∧ (r.average set).rails[n]? = some b := by
  simp [CalRun.average, List.getElem?_mapIdx, ha, hb, h]

include hx

/-- A segment whose samples the round adds. -/
theorem average_of_mem (h : n ∈ r.averaged) :
    (r.average set).sums[n]? = some (a + r.addend x) ∧
      (r.average set).rails[n]? = some (b || x.railed) := by
  simp [CalRun.average, List.getElem?_mapIdx, ha, hb, h, SampleSet.at_eq hx]

/-- The sum and the rail mark of a segment after a round of AVERAGE, by the operation and by whether
the segment takes part in the round (02 R28, R32). -/
theorem average_entry :
    let railed : Bool := decide (x.raw = some 131071 ∨ x.raw = some (-131072))
    let q := r.average set
    (n ∉ r.participants → q.sums[n]? = some a ∧ q.rails[n]? = some b) ∧
    (r.job = .tare → n ∈ r.participants →
      q.sums[n]? = some (a + x.raw.getD 0) ∧ q.rails[n]? = some (b || railed)) ∧
    (∀ j, r.job = .shunt j → n ∈ r.participants → j.groups.head? = some (n / 16) →
      q.sums[n]? = some (a + x.force) ∧ q.rails[n]? = some (b || railed)) ∧
    (∀ j, r.job = .shunt j → j.groups.head? ≠ some (n / 16) →
      q.sums[n]? = some a ∧ q.rails[n]? = some b) := by
  intro railed q
  refine ⟨fun hn => ?_, fun hj hn => ?_, fun j hj hn hg => ?_, fun j hj hg => ?_⟩
  · exact average_of_not_mem ha hb fun hm => hn (mem_participants_of_averaged hm)
  · have hm : n ∈ r.averaged := averaged_tare hj ▸ hn
    simpa only [addend_tare hj, Sample.railed_eq] using average_of_mem hx ha hb hm
  · have hm : n ∈ r.averaged := (mem_averaged_shunt hj).mpr ⟨hn, hg⟩
    simpa only [addend_shunt hj, Sample.railed_eq] using average_of_mem hx ha hb hm
  · exact average_of_not_mem ha hb fun hm => hg ((mem_averaged_shunt hj).mp hm).2

end entry

/-! ### The steps a round makes due -/

theorem closed_run_none {c : Cal} (h : c.run = none) :
    (c.closed set).run = none := by
  simp [Cal.closed, h]

theorem closed_run_some {c : Cal} (h : c.run = some r) :
    (c.closed set).run = some (r.close set) := by
  simp [Cal.closed, h]

theorem mem_listIf {α : Type} {p : Bool} {x y : α} : x ∈ listIf p y ↔ p = true ∧ x = y := by
  cases p <;> simp [listIf]

/-- Of the steps a publication makes due, the operation's are those of its new round count. -/
theorem calibration_mem {s : State} {d : Due}
    (h : d = .shuntWaitEnd ∨ d = .tareCompletion ∨ d = .shuntGroupJudged)
    (hr : s.cal.run = some r) : d ∈ s.publicationDues set ↔ d ∈ (r.close set).dues := by
  have hb : d ∉ bottomDues s.acq (s.acq.publish set) := by
    rcases h with rfl | rfl | rfl <;> simp [bottomDues]
  have ho : d ∉ overrangeDues s.acq (s.acq.publish set) := by
    rcases h with rfl | rfl | rfl <;> simp [overrangeDues]
  have ht : d ∉ s.tripsDue set := by
    rcases tripsDue_cases (set := set) (s := s) with e | ⟨_, _, e⟩ | ⟨_, e⟩ <;>
      rcases h with rfl | rfl | rfl <;> simp [e]
  have hc : (s.cal.closed set).dues = (r.close set).dues := by
    simp only [Cal.dues, closed_run_some hr]
  rw [mem_publicationDues, hc]
  simp only [hb, ho, ht, false_or]

theorem shuntWaitEnd_mem {s : State} (hr : s.cal.run = some r) (hp : r.phase = .shuntWait) :
    Due.shuntWaitEnd ∈ s.publicationDues set ↔ r.rounds = 7 := by
  rw [calibration_mem (.inl rfl) hr, close_shuntWait hp]
  simp [CalRun.dues, hp, mem_listIf]

theorem tareCompletion_mem {s : State} (hr : s.cal.run = some r) (hp : r.phase = .average)
    (hj : r.job = .tare) : Due.tareCompletion ∈ s.publicationDues set ↔ r.rounds = 15 := by
  rw [calibration_mem (.inr (.inl rfl)) hr, close_average hp]
  simp [CalRun.average, CalRun.dues, hp, hj, mem_listIf]

theorem shuntGroupJudged_mem {s : State} {j : ShuntJob} (hr : s.cal.run = some r)
    (hp : r.phase = .average) (hj : r.job = .shunt j) :
    Due.shuntGroupJudged ∈ s.publicationDues set ↔ r.rounds = 15 := by
  rw [calibration_mem (.inr (.inr rfl)) hr, close_average hp]
  simp [CalRun.average, CalRun.dues, hp, hj, mem_listIf]

end rounds

theorem publishRound_cal (set : SampleSet) (s : State) :
    (publishRound set s).cal = s.cal.closed set := by rw [publishRound_eq]

/-! ### The tare completes (02 R29) -/

/-- The segment table after a completed TARE. -/
def CalRun.tared (r : CalRun) (segs : List Segment) : List Segment :=
  segs.mapIdx fun n g =>
    if r.participants.contains n then
      tareSegment (meanOf16 (r.sums.getD n 0)) (r.rails.getD n false) g
    else g

/-- The clamped participants of a completed TARE: no rail seen, and a mean out of range. -/
def CalRun.clamped (r : CalRun) : List Nat :=
  r.participants.filter fun n => r.rails.getD n false = false ∧
    (roundDiv (r.sums.getD n 0) 16 < -16384 ∨ 16383 < roundDiv (r.sums.getD n 0) 16)

/-- The participants a completed TARE makes OPEN: those with a rail seen. -/
def CalRun.railSeen (r : CalRun) : List Nat :=
  r.participants.filter fun n => r.rails.getD n false = true

theorem clamp_eq {lo hi : Int} (h : lo ≤ hi) (x : Int) : clamp lo hi x = max lo (min hi x) := by
  unfold clamp
  split
  · omega
  · split <;> omega

section tared

variable {r : CalRun} {segs : List Segment} {n : Nat} {g : Segment}

theorem tared_of_not_mem (hg : segs[n]? = some g) (h : n ∉ r.participants) :
    (r.tared segs)[n]? = some g := by
  simp [CalRun.tared, List.getElem?_mapIdx, hg, h]

/-- A participant's record after a completed TARE, by the first case that applies. -/
theorem tared_of_mem (hg : segs[n]? = some g) (h : n ∈ r.participants) :
    let mean := roundDiv (r.sums.getD n 0) 16
    (r.tared segs)[n]? = some { g with
      offset := max (-16384) (min 16383 mean)
      status := if r.rails.getD n false then .opened
        else if mean < -16384 ∨ 16383 < mean then .offsetLimit else g.status } := by
  intro mean
  have out : (offsetOut mean = true) = (mean < -16384 ∨ 16383 < mean) := by
    simp [offsetOut]
  have tared : (r.tared segs)[n]? = some (tareSegment mean (r.rails.getD n false) g) := by
    simp only [CalRun.tared, List.getElem?_mapIdx, hg, List.contains_iff_mem.mpr h]
    rfl
  rw [tared, tareSegment, clamp_eq (by decide)]
  simp only [out]

end tared

/-- The completion of a TARE writes the table, ends the operation and posts its report. -/
theorem tareCompletion_eq {s : State} {r : CalRun} (hr : s.cal.run = some r) (hj : r.job = .tare) :
    tareCompletion s =
      post (calDoneTare false r.clamped.length r.railSeen.length) { s with
        acq := { s.acq with segs := r.tared s.acq.segs }
        cal := { run := none, switches := switchesOpen, tareValid := true } } := by
  have clamped : (r.participants.countP fun n => !r.rails.getD n false &&
      offsetOut (meanOf16 (r.sums.getD n 0))) = r.clamped.length := by
    rw [CalRun.clamped, ← List.countP_eq_length_filter]
    congr 1
    funext n
    simp [offsetOut, meanOf16]
  have railSeen : (r.participants.countP fun n => r.rails.getD n false) = r.railSeen.length := by
    simp [CalRun.railSeen, ← List.countP_eq_length_filter]
  unfold tareCompletion
  simp only [hr, hj, clamped, railSeen]
  rfl

/-- A completed TARE is reported at once by a free transmitter. -/
theorem transmit_tareCompletion {s : State} {r : CalRun} (hr : s.cal.run = some r)
    (hj : r.job = .tare) (hd : Due.toolReset ∉ s.due) (hf : s.link.fed) :
    transmit true (takeDue .tareCompletion s) =
      State.reported (calDoneTare false r.clamped.length r.railSeen.length) { s with
        acq := { s.acq with segs := r.tared s.acq.segs }
        cal := { run := none, switches := switchesOpen, tareValid := true } } := by
  rw [takeDue, tareCompletion_eq hr hj]
  exact transmit_post hd hf

/-- Settles O39: the two ends of a phase, the running operation at a publishing close, and the
completion of a TARE. -/
theorem tareAveragesAndWritesOffsets : Obligations.TareAveragesAndWritesOffsets := by
  refine ⟨fun s r hh hf hr => ⟨fun hd hp hj => ?_, fun j g rest hd hp hj hg => ?_,
    fun hd hp => ?_⟩, fun bridges s h hb hz => ?_, fun s r hh hf hd hr hj => ?_⟩
  · exact liveDue_owing_silent hh hf hd rfl (settleEnd_tare (s := s.withDue []) hr hp hj) rfl
  · exact liveDue_owing_silent hh hf hd rfl (settleEnd_shunt (s := s.withDue []) hr hp hj hg) rfl
  · exact liveDue_owing_silent hh hf hd rfl (shuntWaitEnd_eq (s := s.withDue []) hr hp) rfl
  · have hexec := exec_close_ready h hb (bridges := bridges)
    rw [closedRound_settled hz] at hexec
    generalize sampleSet s.acq bridges = set at hexec
    refine ⟨publishRound set s, hexec, ?_⟩
    rw [publishRound_cal, publishRound_due set h.quiet, publishRound_acq]
    refine ⟨rfl, closed_run_none, fun r hr => ?_⟩
    rw [closed_run_some hr]
    exact ⟨fun hp => congrArg some (close_waitSettle hp),
      fun hp => ⟨congrArg some (close_shuntWait hp), shuntWaitEnd_mem hr hp⟩,
      fun hp => ⟨r.average set, congrArg some (close_average hp), rfl, List.length_mapIdx,
        List.length_mapIdx, fun n x a b hx ha hb => average_entry hx ha hb,
        tareCompletion_mem hr hp, fun j => shuntGroupJudged_mem hr hp⟩⟩
  · refine ⟨r.tared s.acq.segs, List.length_mapIdx, fun n g hg => ⟨?_, ?_⟩, ?_⟩
    · exact tared_of_not_mem hg
    · exact tared_of_mem hg
    · exact (liveDue_owing hh hd rfl).trans
        (congrArg Host.Outcome.next (transmit_tareCompletion (s := s.withDue []) hr hj nofun hf))

end Sys2Proof.Machine
end

section
/-! SUPPORT. The judgement of a shunt group (02 R31, R33 to R35): the statuses it writes, their
tallies, and the next group or the end of the check. -/

namespace Sys2Proof.Machine

/-! ### The statuses written (02 R33) -/

/-- The participants of a group. -/
def CalRun.members (r : CalRun) (g : Nat) : List Nat := r.participants.filter fun n => n / 16 == g

/-- The status a judgement writes for segment `n` with the record `x`. -/
def CalRun.verdict (r : CalRun) (tolerance n : Nat) (x : Segment) : SegStatus :=
  shuntStatus x tolerance (meanOf16 (r.sums.getD n 0)) (r.rails.getD n false)

/-- The segment table after the judgement of group `g`. -/
def CalRun.judged (r : CalRun) (tolerance g : Nat) (segs : List Segment) : List Segment :=
  segs.mapIdx fun n x =>
    if (r.members g).contains n then { x with status := r.verdict tolerance n x } else x

/-- The job after the judgement of its first group `g`. -/
def CalRun.jobAfter (r : CalRun) (j : ShuntJob) (g : Nat) (rest : List Nat) (a : Acq) : ShuntJob :=
  { j with
    groups := rest, finished := j.finished ++ [g]
    tally := j.tally.addAll ((r.members g).map fun n => r.verdict j.tolerance n (a.seg n)) }

section judged

variable {r : CalRun} {tolerance g n : Nat} {segs : List Segment} {x : Segment}

theorem mem_members : n ∈ r.members g ↔ n ∈ r.participants ∧ n / 16 = g := by
  simp [CalRun.members]

theorem judged_of_not_mem (hx : segs[n]? = some x) (h : n ∉ r.members g) :
    (r.judged tolerance g segs)[n]? = some x := by
  simp [CalRun.judged, List.getElem?_mapIdx, hx, h]

theorem judged_of_mem (hx : segs[n]? = some x) (h : n ∈ r.members g) :
    (r.judged tolerance g segs)[n]? = some { x with status := r.verdict tolerance n x } := by
  simp [CalRun.judged, List.getElem?_mapIdx, hx, h]

/-- A status is written as often as a participant of the group then carries it. -/
theorem count_written {a : Acq} (h : ∀ n ∈ r.participants, n < a.segs.length) (v : SegStatus) :
    ((r.members g).map fun n => r.verdict tolerance n (a.seg n)).count v =
      (r.participants.filter fun n => n / 16 = g ∧
        ((r.judged tolerance g a.segs).getD n Segment.initial).status = v).length := by
  rw [List.count, List.countP_map, CalRun.members, List.countP_filter,
    ← List.countP_eq_length_filter]
  refine List.countP_congr fun n hn => ?_
  have hx : a.segs[n]? = some (a.seg n) := by
    simp [Acq.seg, List.getElem?_eq_getElem (h n hn)]
  by_cases hg : n / 16 = g
  · have record := judged_of_mem (tolerance := tolerance) hx (mem_members.mpr ⟨hn, hg⟩)
    simp [hg, record]
  · simp [hg]

end judged

/-! ### The judgement (02 R31, R34) -/

section judgement

variable {s : State} {r : CalRun} {j : ShuntJob} {g : Nat}

/-- The last group's judgement ends the check and posts its report. -/
theorem shuntGroupJudged_last (hr : s.cal.run = some r) (hj : r.job = .shunt j)
    (hg : j.groups = [g]) :
    shuntGroupJudged s = post (calDoneShunt false (r.jobAfter j g [] s.acq)) { s with
      acq := { s.acq with segs := r.judged j.tolerance g s.acq.segs }
      cal := { s.cal with run := none, switches := switchesOpen } } := by
  simp only [shuntGroupJudged, hr, hj, hg]
  rfl

/-- Any other judgement begins the next group with empty accumulators. -/
theorem shuntGroupJudged_next {next : Nat} {later : List Nat} (hr : s.cal.run = some r)
    (hj : r.job = .shunt j) (hg : j.groups = g :: next :: later) :
    shuntGroupJudged s = { s with
      acq := { s.acq with segs := r.judged j.tolerance g s.acq.segs }
      cal := { s.cal with
        run := some
          { job := .shunt (r.jobAfter j g (next :: later) s.acq), phase := .shuntWait, rounds := 0
            participants := r.participants, sums := zeroSums, rails := noRails }
        switches := switchesFor next } } := by
  simp only [shuntGroupJudged, hr, hj, hg]
  rfl

end judgement

/-! ### The report (02 R35, 10 R186) -/

theorem groupBits_eq (l : List Nat) :
    groupBits l = (if 0 ∈ l then 1 else 0) + (if 1 ∈ l then 2 else 0) +
      (if 2 ∈ l then 4 else 0) + (if 3 ∈ l then 8 else 0) := by
  simp [groupBits, bit]

/-- The CAL_DONE of a completed SHUNT_CHECK, byte by byte. -/
theorem calDoneShunt_eq (k : ShuntJob) :
    calDoneShunt false k =
      { kind := 0x41#8, severity := .info
        body := [2#8, 0#8] ++
          u8 ((if 0 ∈ k.finished then 1 else 0) + (if 1 ∈ k.finished then 2 else 0) +
            (if 2 ∈ k.finished then 4 else 0) + (if 3 ∈ k.finished then 8 else 0)) ++
          [0#8] ++ u8 k.tally.ok ++ u8 k.tally.shuntLow ++ u8 k.tally.shuntHigh ++
          u8 k.tally.opened ++ u8 k.tally.offsetLimit } := by
  rw [calDoneShunt, groupBits_eq]
  rfl

/-- A report that finds a place is in the queue or in transmission. -/
theorem hasReport_reported {s : State} {p : Report} (h : s.link.reports.length < 16) :
    (s.reported p).hasReport p := by
  unfold State.reported Link.reported
  cases hs : s.link.sending with
  | none => exact .inr rfl
  | some f => exact .inl (by simp [Link.post, h])

/-! ### The statement -/

/-- What the judgement of a group makes of the part, apart from the table and the report: the
calibration unit, the link while a group remains, and the blocks it does not write. -/
theorem exec_shuntGroupJudged {s : State} {r : CalRun} {j : ShuntJob} {g : Nat} {rest : List Nat}
    (hh : s.held = false) (hf : s.link.fed) (hd : s.due = [.shuntGroupJudged])
    (hr : s.cal.run = some r) (hj : r.job = .shunt j) (hg : j.groups = g :: rest) :
    ∃ t, exec .shuntGroupJudged s = .next t ∧
      t.acq = { s.acq with segs := r.judged j.tolerance g s.acq.segs } ∧
      t.cal.tareValid = s.cal.tareValid ∧
      (rest = [] → t.cal.run = none ∧ t.cal.switches = switchesOpen ∧
        (s.link.reports.length < 16 →
          t.hasReport (calDoneShunt false (r.jobAfter j g rest s.acq)))) ∧
      (∀ next later, rest = next :: later → t.link = s.link ∧
        t.cal.switches = switchesFor next ∧
        t.cal.run = some
          { job := .shunt (r.jobAfter j g rest s.acq), phase := .shuntWait, rounds := 0
            participants := r.participants, sums := zeroSums, rails := noRails }) ∧
      t.stroke = s.stroke ∧ t.pos = s.pos ∧ t.guard = s.guard ∧ t.map = s.map ∧
      t.engine = s.engine ∧ t.profile = s.profile ∧ t.lines = s.lines ∧ t.due = [] := by
  cases rest with
  | nil =>
    have last := shuntGroupJudged_last (s := s.withDue []) hr hj hg
    have done : exec .shuntGroupJudged s = .next _ :=
      (liveDue_owing hh hd rfl).trans
        (congrArg Host.Outcome.next
          ((congrArg (transmit true) last).trans (transmit_post List.not_mem_nil hf)))
    exact ⟨_, done, rfl, rfl, fun _ => ⟨rfl, rfl, fun hp => hasReport_reported hp⟩,
      fun _ _ => nofun, rfl, rfl, rfl, rfl, rfl, rfl, rfl, rfl⟩
  | cons next later =>
    have begun : exec .shuntGroupJudged s = .next _ :=
      liveDue_owing_silent hh hf hd rfl (shuntGroupJudged_next (s := s.withDue []) hr hj hg) rfl
    refine ⟨_, begun, rfl, rfl, nofun, fun n l e => ?_, rfl, rfl, rfl, rfl, rfl, rfl, rfl, rfl⟩
    cases e
    exact ⟨rfl, rfl, rfl⟩

/-- Settles O40, by the table judged segment by segment, the tally of what was written, and the next
group or the end. -/
theorem shuntGroupIsJudged : Obligations.ShuntGroupIsJudged := by
  intro s r j g rest hh hf hd hr hj hg
  obtain ⟨t, hexec, acq, tareValid, last, next, frame⟩ :=
    exec_shuntGroupJudged hh hf hd hr hj hg
  refine ⟨t, r.jobAfter j g rest s.acq, hexec, fun hin => ?_, rfl, rfl, rfl, ?_, fun n x hx => ?_,
    tareValid, fun e => ?_, next, frame⟩
  · rw [acq]
    simp only [CalRun.jobAfter, Tally.addAll, count_written hin]
  · rw [acq]
    exact List.length_mapIdx
  · rw [acq]
    refine ⟨fun h => judged_of_not_mem hx fun hm => ?_,
      fun hn hg => judged_of_mem hx (mem_members.mpr ⟨hn, hg⟩)⟩
    obtain ⟨hn, hg⟩ := mem_members.mp hm
    exact h.elim (fun h => h hn) fun h => h hg
  · obtain ⟨run, switches, report⟩ := last e
    exact ⟨run, switches, fun hp => calDoneShunt_eq _ ▸ report hp⟩

end Sys2Proof.Machine
end

section
/-! SUPPORT. The reports of one command: how a part whose transmitter has still to choose stands for
the part the claims speak of, report by report, from the start of a stroke to its end. -/

namespace Sys2Proof.Machine

/-! ### The transmitter's choice among reports (10 R184) -/

/-- A free transmitter takes the oldest report. -/
def Link.chosen (l : Link) : Link :=
  { l with
    sending := l.sending.or (l.reports.head?.map OutFrame.report)
    reports := if l.sending.isSome then l.reports else l.reports.tail }

/-- At a free transmitter no reply waits and `n` more reports find a place. -/
def Link.Room (n : Nat) (l : Link) : Prop :=
  l.sending = none → l.replies = [] ∧ l.reports.length + n ≤ 16

/-- The part once the transmitter has chosen. -/
def State.seen (s : State) : State := { s with link := s.link.chosen }

/-- No step is due, `n` more reports find a place, and once the transmitter has chosen the part is
`t`. -/
structure State.SentAs (n : Nat) (s t : State) : Prop where
  quiet : s.due = []
  room : s.link.Room n
  sent : s.seen = t

/-- A fed link has nothing to choose. -/
theorem Link.chosen_fed {l : Link} (h : l.fed) : l.chosen = l := by
  have sending : l.sending.or (l.reports.head?.map OutFrame.report) = l.sending := by
    cases hs : l.sending with
    | some f => rfl
    | none => simp [(h hs).2]
  have reports : (if l.sending.isSome then l.reports else l.reports.tail) = l.reports := by
    cases hs : l.sending with
    | some f => rfl
    | none => simp [(h hs).2]
  rw [Link.chosen, sending, reports]

/-- A report that finds a place goes behind the queue. -/
theorem Link.post_append {n : Nat} {l : Link} (h : l.reports.length + (n + 1) ≤ 16) (r : Report) :
    l.post r = { l with reports := l.reports ++ [r] } := by
  have fits : l.reports.length < Config.reportPlaces := by
    show l.reports.length < 16
    omega
  exact if_pos fits

/-- A report that finds a place is sent or queued. -/
theorem Link.chosen_post {n : Nat} {l : Link} (h : l.Room (n + 1)) (r : Report) :
    (l.post r).chosen = l.chosen.reported r := by
  cases hs : l.sending with
  | some f =>
    have busy (k : Link) (hk : k.sending = some f) : k.chosen = k :=
      Link.chosen_fed fun e => absurd (hk.symm.trans e) nofun
    have after : (l.post r).sending = some f := by rw [Link.post_frame]; exact hs
    rw [busy _ after, busy l hs, Link.reported, hs]
    rfl
  | none =>
    obtain ⟨replies, places⟩ := h hs
    rw [Link.post_append places]
    cases hr : l.reports with
    | nil => simp [Link.chosen, Link.reported, hs, hr]
    | cons p rest =>
      have fits : rest.length < 16 := by
        rw [hr, List.length_cons] at places
        omega
      simp [Link.chosen, Link.reported, Link.post, hs, hr, fits]

theorem Link.Room.post {n : Nat} {l : Link} (h : l.Room (n + 1)) (r : Report) :
    (l.post r).Room n := by
  intro hs
  rw [Link.post_frame] at hs
  obtain ⟨replies, places⟩ := h hs
  rw [Link.post_append places]
  exact ⟨replies, by simpa [Nat.add_assoc, Nat.add_comm 1 n] using places⟩

namespace State.SentAs

variable {n : Nat} {s t : State}

/-- A part whose link is fed stands as it is. -/
theorem of_fed (hd : s.due = []) (hf : s.link.fed) : s.SentAs 16 s where
  quiet := hd
  room := fun hs => ⟨(hf hs).1, by simp [(hf hs).2]⟩
  sent := by rw [State.seen, Link.chosen_fed hf]

/-- The transmitter's choice ends the command. -/
theorem transmit (h : s.SentAs n t) : transmit true s = t := by
  obtain ⟨hd, hr, rfl⟩ := h
  have fed (hf : s.link.fed) : Machine.transmit true s = s.seen := by
    rw [transmit_fed hf, State.seen, Link.chosen_fed hf]
  cases hs : s.link.sending with
  | some f => exact fed fun e => absurd (hs.symm.trans e) nofun
  | none =>
    obtain ⟨replies, _⟩ := hr hs
    cases hp : s.link.reports with
    | nil => exact fed fun _ => ⟨replies, hp⟩
    | cons p rest =>
      simp [Machine.transmit, sendReport, hs, hd, hp, replies, State.onLink, State.seen,
        Link.chosen]

theorem mono {m : Nat} (h : s.SentAs n t) (hm : m ≤ n) : s.SentAs m t where
  quiet := h.quiet
  room := fun hs => ⟨(h.room hs).1, Nat.le_trans (Nat.add_le_add_left hm _) (h.room hs).2⟩
  sent := h.sent

/-- A posted report is sent or queued in what the part stands for. -/
theorem of_post {r : Report} (hd : s.due = []) (hr : s.link.Room (n + 1))
    (e : s.seen.reported r = t) : (post r s).SentAs n t where
  quiet := hd
  room := hr.post r
  sent := e ▸ congrArg (fun l => { s with link := l }) (Link.chosen_post hr r)

theorem post (h : s.SentAs (n + 1) t) (r : Report) : (post r s).SentAs n (t.reported r) :=
  of_post h.quiet h.room (by rw [h.sent])

end State.SentAs

/-! ### Capture and the end of the stroke (04 R71, R77) -/

/-- Capture closes where the quiet timer has expired, and nothing else changes (04 R71). -/
def State.quietClosed (s : State) : State :=
  { s with
    stroke := { s.stroke with
      captureOpen := s.stroke.captureOpen && !s.closesAtHalt
      quiet := if s.closesAtHalt then .stopped else s.stroke.quiet }
    profile := { s.profile with
      condition := if s.closesAtHalt then .closed else s.profile.condition } }

/-- The close of capture at an entry into HALTED, as one record (04 R71). -/
theorem closeCapture_expired (s : State) :
    (if s.stroke.quiet == .expired then closeCapture s else s) = s.quietClosed := by
  unfold State.quietClosed State.closesAtHalt
  cases hq : s.stroke.quiet == .expired with
  | true => simp [closeCapture_eq]
  | false => simp

/-- A STROKE_EVENT, with its last station as one field (04 R79). -/
theorem strokeEvent_eq (severity : Severity) (state : StrokeState) (cause : Nat)
    (number : BitVec 16) (last : Option Nat) :
    strokeEvent severity state cause number last =
      { kind := 0x40#8, severity := severity
        body := u8 state.code ++ u8 cause ++ bytes2 number ++ u16 (last.getD 0xFFFF) } := by
  rw [strokeEvent, stationField_eq]
  rfl

theorem remove_stroke_isEmpty (r : StopSet) :
    (r.remove .stroke).isEmpty = true ↔ r.lockout = false ∧ r.resetHold = false := by
  simp [StopSet.remove, StopSet.isEmpty]

theorem remove_resetHold_isEmpty (r : StopSet) :
    (r.remove .resetHold).isEmpty = true ↔ r.stroke = false ∧ r.lockout = false := by
  simp [StopSet.remove, StopSet.isEmpty]

/-- L of a stroke, as one condition (04 R72, 07 R123). -/
theorem lastCaptured_eq (s : State) :
    s.lastCaptured =
      if s.stroke.captured = true ∧ s.pos.high ≠ 0 then some (s.pos.high - 1) else none := by
  unfold State.lastCaptured Pos.lastStation
  cases s.stroke.captured <;> by_cases hz : s.pos.high = 0 <;> simp [hz]

namespace State.SentAs

variable {n : Nat} {s t : State}

theorem quietClosed (h : s.SentAs n t) : s.quietClosed.SentAs n t.quietClosed := by
  obtain ⟨hd, hr, rfl⟩ := h
  exact ⟨hd, hr, rfl⟩

/-- The end of a stroke reports EVALUATE. -/
theorem endStroke (h : s.SentAs (n + 1) t) : (endStroke s).SentAs n t.ended := by
  obtain ⟨hd, hr, rfl⟩ := h
  rw [endStroke_eq]
  refine of_post hd hr ?_
  rw [strokeEvent_eq, removeReason_eq, evalInputs, lastCaptured_eq,
    if_congr (remove_stroke_isEmpty s.guard.reasons) rfl rfl]
  rfl

/-- A stroke that may end. -/
theorem endStroke_ite (h : s.SentAs (n + 1) t) (p : Prop) [Decidable p] :
    (if p then Machine.endStroke s else s).SentAs n (if p then t.ended else t) := by
  split
  · exact h.endStroke
  · exact h.mono (Nat.le_succ n)

/-- The release of the reset hold reports nothing. -/
theorem holdReleased (h : s.SentAs n t) :
    (removeReason .resetHold s).SentAs n t.holdReleased := by
  obtain ⟨hd, hr, rfl⟩ := h
  refine ⟨hd, hr, ?_⟩
  rw [removeReason_eq, if_congr (remove_resetHold_isEmpty s.guard.reasons) rfl rfl]
  rfl

/-! ### Halt causes (04 R72, R73) -/

/-- After an entry into HALTED capture closes where the quiet timer has expired, and the stroke ends
where the ram is home. -/
theorem haltedEntry (h : s.SentAs (n + 1) t) :
    (haltedEntry s).SentAs n (if s.home then t.quietClosed.ended else t.quietClosed) := by
  have e : Machine.haltedEntry s =
      if s.home then Machine.endStroke s.quietClosed else s.quietClosed := by
    rw [Machine.haltedEntry, closeCapture_expired]
    rfl
  rw [e]
  exact h.quietClosed.endStroke_ite _

end State.SentAs

/-- A halt cause after the outcome is the secondary cause, or counted (04 R73, R74). -/
theorem recordSecondary_eq (c : HaltCause) (k : Stroke) :
    recordSecondary c k = k.withSecondary c := by
  cases hk : k.secondary <;> simp [recordSecondary, Stroke.withSecondary, hk, satSucc]

/-- HALTED has been entered and reported: the watchdog stops, and capture closes where the quiet
timer has expired (04 R71, R72, R79). -/
def State.enteredHalted (c : HaltCause) (s : State) : State :=
  State.reported (haltReport c s)
    { s with
      stroke := { s.stroke with state := .halted }
      link := { s.link with watchdog := none } }.quietClosed

/-- A cause recorded after the outcome writes the secondary cause and its count alone. -/
theorem withSecondary_writes (c : HaltCause) (k : Stroke) :
    ∃ cause count, k.withSecondary c = { k with secondary := cause, secondaryCount := count } := by
  unfold Stroke.withSecondary
  split
  · exact ⟨_, _, rfl⟩
  · exact ⟨_, _, rfl⟩

/-- A halt cause has become the outcome and STROKE stands in the set; HALTED is entered next
(04 R72, 05 R83, R85, R92). -/
def State.outcomeBy (c : HaltCause) (s : State) : State :=
  { s with
    stroke := { s.stroke with outcome := .halt c }
    guard := { s.guard with
      reasons := { s.guard.reasons with stroke := true }
      readback := if s.guard.reasons.isEmpty = true ∧ s.guard.sensed = .high then .running
        else s.guard.readback
      counting := s.guard.counting || s.guard.reasons.isEmpty } }

/-- A halt cause in a descent is the outcome, and HALTED is entered (04 R72). -/
theorem halt_eq_of_descending (c : HaltCause) {s : State} (hs : s.stroke.state.descending = true) :
    halt c s = enterHalted c (s.outcomeBy c) := by
  have counts : s.stroke.state.countsStops = true := by
    cases hk : s.stroke.state <;> simp_all [StrokeState.descending, StrokeState.countsStops]
  have e : halt c s =
      enterHalted c (addReason .stroke (s.onStroke fun k => { k with outcome := .halt c })) := by
    cases hk : s.stroke.state <;> simp_all [StrokeState.descending, halt]
  rw [e, addReason_eq, State.onStroke_stroke, counts, Bool.and_true]
  rfl

namespace State.SentAs

variable {n : Nat} {s t : State}

/-- HALTED is entered and reported, and with the ram home the stroke ends there. -/
theorem enterHalted (c : HaltCause) (h : s.SentAs (n + 2) t) :
    (enterHalted c s).SentAs n
      (if s.home then (t.enteredHalted c).ended else t.enteredHalted c) := by
  obtain ⟨hd, hr, rfl⟩ := h
  have posted : (postStroke .stroke c.code (stopWatchdog (enterState .halted s))).SentAs (n + 1)
      (State.reported (haltReport c s) (stopWatchdog (enterState .halted s)).seen) :=
    of_post hd hr (congrArg (State.reported · _) (strokeEvent_eq ..))
  exact posted.haltedEntry

/-- A halt cause taken in a descent. -/
theorem halt_descending (c : HaltCause) (h : s.SentAs (n + 2) t)
    (hs : s.stroke.state.descending = true) :
    (halt c s).SentAs n (if s.home then (t.haltedBy c).ended else t.haltedBy c) := by
  obtain ⟨hd, hr, rfl⟩ := h
  rw [halt_eq_of_descending c hs]
  exact enterHalted c (s := s.outcomeBy c) ⟨hd, hr, rfl⟩

/-- A halt cause taken in HOLD. -/
theorem halt_hold (c : HaltCause) (h : s.SentAs (n + 2) t) (hs : s.stroke.state = .hold) :
    (halt c s).SentAs n (if s.home then (t.heldBy c).ended else t.heldBy c) := by
  obtain ⟨hd, hr, rfl⟩ := h
  obtain ⟨cause, count, written⟩ := withSecondary_writes c s.stroke
  have e : halt c s = Machine.enterHalted c { s with
      stroke := { s.stroke with secondary := cause, secondaryCount := count, dwell := none } } := by
    simp [halt, hs, State.onStroke, recordSecondary_eq, written]
  have held : s.seen.heldBy c = State.enteredHalted c { s.seen with
      stroke := { s.stroke with secondary := cause, secondaryCount := count, dwell := none } } := by
    unfold State.heldBy
    rw [show s.seen.stroke.withSecondary c = _ from written]
    rfl
  rw [e, held]
  exact enterHalted c ⟨hd, hr, rfl⟩

end State.SentAs

/-! ### The start of the stroke and the end of a calibration (02 R37, 04 R66) -/

/-- A running operation is abandoned with its CAL_DONE. -/
theorem abandonCal_running {s : State} {r : CalRun} (hr : s.cal.run = some r) :
    abandonCal s = post r.abandonedReport
      { s with cal := { s.cal with run := none, switches := [false, false, false, false] } } := by
  cases hj : r.job with
  | tare =>
    simp only [abandonCal, hr, hj, CalRun.abandonedReport]
    rfl
  | shunt j =>
    simp only [abandonCal, hr, hj, CalRun.abandonedReport, calDoneShunt, groupBits_eq]
    rfl

theorem abandonCal_stroke (s : State) : (abandonCal s).stroke = s.stroke := by
  cases hr : s.cal.run with
  | none => rw [abandonCal_idle hr]
  | some r => rw [abandonCal_running hr]; rfl

/-- APPROACH has been entered and reported, before the halt causes it finds are given (04 R66). -/
def State.approached (s : State) : State :=
  post (strokeEvent .info .approach 0 (s.stroke.number + 1) s.pos.lastStation)
    { s with
      stroke := { s.stroke with
        number := s.stroke.number + 1, outcome := .none, secondary := none, secondaryCount := 0
        seat := none, captured := false, state := .approach }
      engine := { s.engine with results := [], summary := none, valid := false }
      lines := { s.lines with indication := .none }
      guard := guardApproach s.guard
      link := watchdogApproach s.link }

/-- The watchdog starts unless its interval is 0, which leaves the expiry count (10 R187). -/
theorem watchdogApproach_eq (l : Link) :
    watchdogApproach l = { l with
      watchdog := if l.interval = 0 then none else some l.interval
      expiries := if l.interval = 0 then l.expiries else 0 } := by
  unfold watchdogApproach
  split
  · simp
  · simp

theorem strokeStart_eq (s : State) : strokeStart s = giveApproachCauses s.approached := rfl

/-- With the line high, GUARD OK and the position lost, a start gives ENCODER_FAULT alone
(03 R47). -/
theorem giveApproachCauses_unreferenced {s : State} (h1 : s.guard.sensed = .high)
    (h2 : s.guardOk = true) (h3 : s.homeAssigned = false) (h4 : s.pos.referenced = false) :
    giveApproachCauses s = halt .encoderFault s := by
  simp [giveApproachCauses, h1, h2, h3, h4, listIf, inFreeOrder, needsOrder, tickIfOrdered]

namespace State.SentAs

variable {n : Nat} {s t : State}

/-- A running operation is abandoned with its report; without one nothing changes. -/
theorem abandoned (h : s.SentAs (n + 1) t) : (abandonCal s).SentAs n t.abandoned := by
  obtain ⟨hd, hr, rfl⟩ := h
  have same : s.seen.cal = s.cal := rfl
  cases hc : s.cal.run with
  | none =>
    rw [abandonCal_idle hc, State.abandoned, same, hc]
    exact mono ⟨hd, hr, rfl⟩ (Nat.le_succ n)
  | some r =>
    rw [abandonCal_running hc, State.abandoned, same, hc]
    exact of_post hd hr rfl

/-- The entry into APPROACH reports it. -/
theorem approached (h : s.SentAs (n + 1) t) : s.approached.SentAs n t.started := by
  obtain ⟨hd, hr, rfl⟩ := h
  rw [State.approached, strokeEvent_eq, watchdogApproach_eq]
  exact of_post hd hr rfl

end State.SentAs

/-! ### Seating and the dwell (04 R70, R76) -/

/-- The stroke is seated and HOLD entered and reported, before a dwell of 0 expires (04 R70). -/
def State.seatEntered (station : Nat) (s : State) : State :=
  post (strokeEvent .info .hold 1 s.stroke.number s.pos.lastStation)
    { s with
      stroke := { s.stroke with
        state := .hold, outcome := .seatedOk, seat := some station
        dwell := some s.stroke.params.dwell }
      guard := { s.guard with
        reasons := s.guard.reasons.add .stroke
        readback := if s.guard.reasons.isEmpty = true ∧ s.guard.sensed = .high then .running
          else s.guard.readback
        counting := s.guard.counting || s.guard.reasons.isEmpty }
      link := { s.link with watchdog := none } }

/-- A seating in CAPTURE with the quiet timer unexpired enters HOLD, where a dwell of 0 expires. -/
theorem seatAt_eq {s : State} (station : Nat) (hs : s.stroke.state = .capture)
    (hq : s.stroke.quiet ≠ .expired) :
    seatAt station s =
      if s.stroke.params.dwell = 0 then dwellExpired (s.seatEntered station)
      else s.seatEntered station := by
  have unexpired : (s.stroke.quiet == .expired) = false := by simpa using hq
  have counts : s.stroke.state.countsStops = true := by rw [hs]; rfl
  simp only [seatAt, addReason_eq, State.onStroke_stroke, counts, Bool.and_true, postStroke,
    post_stroke, stopWatchdog, State.onLink_stroke, unexpired, Bool.false_eq_true, if_false]
  rfl

namespace State.SentAs

variable {n : Nat} {s t : State}

/-- The seating reports HOLD. -/
theorem seatEntered (station : Nat) (h : s.SentAs (n + 1) t) :
    (s.seatEntered station).SentAs n (t.seatedAt station) := by
  obtain ⟨hd, hr, rfl⟩ := h
  rw [State.seatEntered, strokeEvent_eq]
  exact of_post hd hr rfl

/-- The expiry of the dwell enters RETRACT, and with the ram home ends the stroke there. -/
theorem dwellExpired (h : s.SentAs (n + 2) t) :
    (dwellExpired s).SentAs n (if s.home then t.retracted.ended else t.retracted) := by
  obtain ⟨hd, hr, rfl⟩ := h
  have e : Machine.dwellExpired s =
      (let u := postStroke .info s.stroke.outcome.code (closeCapture
        (enterState .retract (s.onStroke fun k => { k with dwell := none })))
      if s.home then Machine.endStroke u else u) := by
    rw [Machine.dwellExpired, closeCapture_eq]
    rfl
  have posted : (postStroke .info s.stroke.outcome.code (closeCapture
      (enterState .retract (s.onStroke fun k => { k with dwell := none })))).SentAs (n + 1)
        s.seen.retracted := by
    rw [postStroke, closeCapture_eq, strokeEvent_eq]
    exact of_post hd hr rfl
  rw [e]
  exact posted.endStroke_ite _

end State.SentAs

end Sys2Proof.Machine
end

section
/-! SUPPORT. A count of the ram (03 R40, R41) and the latch it may bring (03 R49 to R51, 04 R69). -/

namespace Sys2Proof.Machine

/-! ### Counts (03 R40, R41) -/

/-- Which changes of a phase count up, by the direction and the levels before them (03 R40;
log 16). -/
theorem countsUp_iff (p : Pos) :
    (p.direction = .aLeadsUp → (p.countsUp .a = true ↔ p.encA = p.encB) ∧
      (p.countsUp .b = true ↔ p.encA ≠ p.encB)) ∧
    (p.direction = .bLeadsUp → (p.countsUp .a = true ↔ p.encA ≠ p.encB) ∧
      (p.countsUp .b = true ↔ p.encA = p.encB)) := by
  unfold Pos.countsUp Pos.aLeads
  refine ⟨fun d => ?_, fun d => ?_⟩
  · rw [d]
    cases p.encA <;> cases p.encB <;> decide
  · rw [d]
    cases p.encA <;> cases p.encB <;> decide

/-- A count below the place of the next station, or with all stations latched, latches none. -/
theorem latchTest_below {s : State}
    (h : s.stroke.captureOpen = true → ∀ c, s.pos.copies = some c →
      c.limit ≤ s.pos.high ∨ s.pos.counter < (c.start + s.pos.high * c.pitch : Nat)) :
    latchTest s = s := by
  cases hc : s.stroke.captureOpen with
  | false => exact latchTest_closed hc
  | true =>
    unfold latchTest
    cases hp : s.pos.copies with
    | none => rfl
    | some c =>
      refine if_neg fun met => ?_
      simp only [Bool.and_eq_true, decide_eq_true_eq] at met
      obtain ⟨⟨-, more⟩, reached⟩ := met
      rcases h hc c hp with full | below
      · exact absurd more (Nat.not_lt.mpr full)
      · exact absurd below (Int.not_lt.mpr reached)

/-- A count that reaches the place of the next station latches there. -/
theorem latchTest_reached {s : State} {c : StationCopies} (ho : s.stroke.captureOpen = true)
    (hc : s.pos.copies = some c) (hl : s.pos.high < c.limit)
    (hr : (c.start + s.pos.high * c.pitch : Nat) ≤ s.pos.counter) :
    latchTest s = latchStation c.limit s := by
  simp only [latchTest, hc, ho, decide_eq_true hl, decide_eq_true hr, Bool.and_self, if_true]

/-- A count that moves home nowhere and enters no CAPTURE comes to the latching test. -/
theorem countTaken_latchTest {s : State} {wasApproach : Bool}
    (h : wasApproach = true → s.stroke.state = .approach →
      s.pos.counter < s.stroke.params.captureStart) :
    countTaken s.home wasApproach s = latchTest s := by
  unfold countTaken
  rw [homeChange_same rfl]
  refine if_neg fun entered => ?_
  simp only [Bool.and_eq_true, decide_eq_true_eq, beq_iff_eq] at entered
  obtain ⟨⟨was, is⟩, reached⟩ := entered
  exact absurd (h was is) (Int.not_lt.mpr reached)

/-- Settles O41, by the levels of the two phases, and by a count that finds no boundary. -/
theorem countMovesTheCounter : Obligations.CountMovesTheCounter := by
  refine ⟨fun p x y hx hy => hx ▸ hy ▸ countsUp_iff p,
    fun ph s ready bounded home below short => ?_⟩
  have taken : countTaken s.home (s.stroke.state == .approach) (s.counted ph) = s.counted ph := by
    rw [← home, countTaken_latchTest fun _ => below]
    exact latchTest_below (by simpa using short)
  exact (encoderCount_ready ready bounded).trans
    (congrArg Host.Outcome.next (by rw [taken]; exact transmit_fed ready.fed))

/-! ### The latch (03 R49 to R51) -/

/-- Station h has been latched, and capture closed where it is the last of `limit` (03 R49). -/
def State.latchedWithin (limit : Nat) (s : State) : State :=
  if s.pos.high + 1 = limit then s.latched.captureEnded else s.latched

/-- What a latch has made of `s`, as the checks after it read it. -/
structure State.AfterLatch (s t : State) : Prop where
  state : t.stroke.state = s.stroke.state
  params : t.stroke.params = s.stroke.params
  number : t.stroke.number = s.stroke.number
  quiet : t.stroke.quiet ≠ .expired
  guard : t.guard = s.guard
  link : t.link = s.link
  due : t.due = s.due
  home : t.home = s.home
  high : t.pos.high = s.pos.high + 1

/-- A latch leaves the stroke's state and parameters, the guard, the link and home. -/
theorem latchedWithin_frame (limit : Nat) (s : State) : s.AfterLatch (s.latchedWithin limit) := by
  unfold State.latchedWithin
  split
  · exact ⟨rfl, rfl, rfl, nofun, rfl, rfl, rfl, rfl, rfl⟩
  · exact ⟨rfl, rfl, rfl, nofun, rfl, rfl, rfl, rfl, rfl⟩

/-- A latch in CAPTURE with no overtravel counted comes to the checks of the stroke controller. -/
theorem latchStation_capture {limit : Nat} {s : State} (hs : s.stroke.state = .capture)
    (ho : s.stroke.captureOpen = true) (hc : s.guard.counting = false) :
    latchStation limit s = examineLatch s.stationNow (s.latchedWithin limit) := by
  have idle (u : State) (hu : u.guard = s.guard) : countOvertravel u = u := by
    simp [countOvertravel, hu, hc]
  have closed : closeCapture s.latched = s.latched.captureEnded := if_pos ho
  have e : latchStation limit s =
      (let u := if s.latched.pos.high = limit then closeCapture s.latched else s.latched
      if u.stroke.state = .capture then examineLatch s.stationNow u else u) := by
    rw [latchStation, stationRecord_eq]
    simp only
    rw [idle]
    · rfl
    · rfl
  rw [e, closed]
  exact if_pos ((latchedWithin_frame limit s).state.trans hs)

/-- A latch that meets a seating check seats (04 R69, R70). -/
theorem examineLatch_seated {r : Station} {s : State} (h : s.seatingMet r) :
    examineLatch r s = seatAt r.index s := if_pos ((seated_iff s r).mpr h)

/-- A latch that seats nothing ends the travel at the end position and at the station limit
(04 R69, R72). -/
theorem examineLatch_unseated {r : Station} {s : State} (h : ¬s.seatingMet r) :
    examineLatch r s =
      if (s.stroke.params.endPosition : Int) ≤ r.position ∨ s.pos.high = s.stroke.params.maxStations
      then halt .noSeat s else s := by
  have unseated := mt (seated_iff s r).mp h
  simp only [examineLatch, unseated, if_false, Bool.or_eq_true, decide_eq_true_eq, beq_iff_eq,
    Bool.false_eq_true]

section checks

variable {n : Nat} {r : Station} {t : State} (shown : t.SentAs (n + 3) t)
  (descent : t.stroke.state = .capture)

include shown descent

/-- The end of the travel halts the stroke (04 R72). -/
theorem transmit_examineLatch_noSeat (away : t.home = false) (unmet : ¬t.seatingMet r)
    (ends : (t.stroke.params.endPosition : Int) ≤ r.position ∨
      t.pos.high = t.stroke.params.maxStations) :
    transmit true (examineLatch r t) = t.haltedBy .noSeat := by
  rw [examineLatch_unseated unmet, if_pos ends,
    (shown.halt_descending .noSeat (by rw [descent]; rfl)).transmit, away]
  rfl

/-- A seating with a dwell of 0 enters HOLD and RETRACT (04 R70, R76). -/
theorem transmit_examineLatch_retracts (quiet : t.stroke.quiet ≠ .expired) (away : t.home = false)
    (met : t.seatingMet r) (zero : t.stroke.params.dwell = 0) :
    transmit true (examineLatch r t) = (t.seatedAt r.index).retracted := by
  rw [examineLatch_seated met, seatAt_eq _ descent quiet, if_pos zero,
    (shown.seatEntered r.index).dwellExpired.transmit,
    show (t.seatEntered r.index).home = false from away]
  rfl

/-- A seating with a dwell enters HOLD (04 R70). -/
theorem transmit_examineLatch_holds (quiet : t.stroke.quiet ≠ .expired) (met : t.seatingMet r)
    (dwells : t.stroke.params.dwell ≠ 0) :
    transmit true (examineLatch r t) = t.seatedAt r.index := by
  rw [examineLatch_seated met, seatAt_eq _ descent quiet, if_neg dwells,
    (shown.seatEntered r.index).transmit]

end checks

/-- ENCODER_COUNT that latches a station in CAPTURE: the latch, then the checks on it. -/
theorem exec_latch {ph : Phase} {s : State} (ready : s.Ready) (bounded : s.pos.beyond ph = false)
    (capture : s.stroke.state = .capture) (isOpen : s.stroke.captureOpen = true)
    (home : (s.counted ph).home = s.home) (idle : s.guard.counting = false)
    (copies : s.pos.copies = some s.stroke.params.copies)
    (room : s.pos.high < s.stroke.params.maxStations)
    (reached : ((s.stroke.params.captureStart + s.pos.high * s.stroke.params.pitch : Nat) : Int) ≤
      (s.counted ph).pos.counter) :
    exec (.encoderCount ph) s = .next (transmit true (examineLatch (s.counted ph).stationNow
      ((s.counted ph).latchedWithin s.stroke.params.maxStations))) := by
  rw [← counted_high ph s] at room reached
  have latched : countTaken s.home (s.stroke.state == .approach) (s.counted ph) =
      latchStation s.stroke.params.maxStations (s.counted ph) := by
    rw [← home, countTaken_latchTest (by simp [capture])]
    exact latchTest_reached (s := s.counted ph) isOpen ((counted_copies ph s).trans copies) room
      reached
  refine (encoderCount_ready ready bounded).trans ?_
  rw [latched, latchStation_capture (s := s.counted ph) capture isOpen idle]

/-- Settles O44, by the state the latch leaves and the checks of the stroke controller on it. -/
theorem latchSeatsOrEndsTheTravel : Obligations.LatchSeatsOrEndsTheTravel := by
  intro ph s ready bounded capture isOpen away awayAfter idle copies room reached t r
  have ht : (s.counted ph).latchedWithin s.stroke.params.maxStations = t := by
    rw [State.latchedWithin, counted_high]
  have taken : exec (.encoderCount ph) s = .next (transmit true (examineLatch r t)) := by
    rw [exec_latch ready bounded capture isOpen (awayAfter.trans away.symm) idle copies room
      reached, ht]
  obtain ⟨state, params, number, quiet, guard, link, due, home, high⟩ :=
    ht ▸ latchedWithin_frame s.stroke.params.maxStations (s.counted ph)
  have descent : t.stroke.state = .capture := state.trans capture
  have still : t.home = false := home.trans awayAfter
  have fed : t.link.fed := link ▸ ready.fed
  have shown : t.SentAs 16 t := .of_fed (due.trans ready.quiet) fed
  have station : r.index = s.pos.high := counted_high ph s
  rw [counted_high] at high
  rw [counted_stroke] at params number
  rw [counted_guard] at guard
  rw [taken]
  refine ⟨fun unmet more short => ?_, fun unmet ends => ?_, fun met zero => ?_,
    fun met dwells => ?_⟩
  · rw [examineLatch_unseated unmet, if_neg, transmit_fed fed]
    rw [params, high]
    rintro (beyond | last)
    · exact absurd short (Int.not_lt.mpr beyond)
    · exact absurd last (Nat.ne_of_lt more)
  · rw [transmit_examineLatch_noSeat shown descent still unmet]
    rw [params, high]
    exact ends.symm
  · rw [transmit_examineLatch_retracts shown descent quiet still met (params ▸ zero), station]
  · have last : t.pos.lastStation = some s.pos.high := by simp [Pos.lastStation, high]
    have uncounted : t.guard.counting = false := guard ▸ idle
    rw [transmit_examineLatch_holds shown descent quiet met (params ▸ dwells), station,
      State.seatedAt, last, uncounted, params, number]
    rfl

end Sys2Proof.Machine
end

section
/-! SUPPORT. Encoder faults and reference pulses (03 R41 to R47, 04 R57, R77). -/

namespace Sys2Proof.Machine

/-! ### The limits of the counter (03 R41) -/

/-- A change of one phase is beyond the limits where the counter stands at one and would pass it. -/
theorem beyond_iff (ph : Phase) {p : Pos} (hl : -8388608 ≤ p.counter) (hh : p.counter ≤ 8388607) :
    p.beyond ph = true ↔ (p.counter = 8388607 ∧ p.countsUp ph = true) ∨
      (p.counter = -8388608 ∧ p.countsUp ph = false) := by
  unfold Pos.beyond Pos.counted
  cases p.countsUp ph with
  | true =>
    simp only [if_true, Bool.or_eq_true, decide_eq_true_eq, Bool.true_eq_false, and_false, or_false,
      and_true, counterMax, counterMin]
    omega
  | false =>
    simp only [if_false, Bool.or_eq_true, decide_eq_true_eq, Bool.false_eq_true, and_false,
      false_or, and_true, counterMax, counterMin]
    omega

/-- An ENCODER_FAULT for one phase within the limits is no fault (log 4). -/
theorem exec_encoderFault_legal {ph : Phase} {s : State} (ready : s.Ready)
    (bounded : s.pos.beyond ph = false) : exec (.encoderFault (.one ph)) s = .next s := by
  refine (live_ready ready _).trans (congrArg Host.Outcome.next ?_)
  rw [encoderFault, bounded]
  exact transmit_fed ready.fed

/-! ### Home and the position unit (04 R57) -/

/-- With no HOME line the ram is not home while the position is not referenced (04 R57). -/
theorem home_unreferenced {s : State} (ha : s.homeAssigned = false)
    (hr : s.pos.referenced = false) : s.home = false := by
  unfold State.homeAssigned at ha
  unfold State.home
  cases hl : s.lines.holding .home with
  | some l => simp [hl] at ha
  | none => simp [hr]

/-- With a HOME line home does not depend on the position unit (04 R57). -/
theorem home_assigned {s : State} (ha : s.homeAssigned = true) (p : Pos) :
    ({ s with pos := p } : State).home = s.home := by
  unfold State.homeAssigned at ha
  unfold State.home
  cases hl : s.lines.holding .home with
  | some l => simp
  | none => simp [hl] at ha

/-! ### An encoder fault (03 R42, R43) -/

/-- The severity of a fault outside APPROACH, CAPTURE and HOLD. -/
theorem faultSeverity_unguarded {k : StrokeState} (h : k.guarded = false) :
    faultSeverity k = if k.returning then .stroke else .note := by
  cases k <;> simp_all [StrokeState.guarded, faultSeverity, StrokeState.inStroke,
    StrokeState.returning]

theorem faultSeverity_guarded {k : StrokeState} (h : k.guarded = true) :
    faultSeverity k = .stroke := by
  cases k <;> simp_all [StrokeState.guarded, faultSeverity, StrokeState.inStroke]

/-- The report of an encoder fault, with the position before it (03 R43). -/
def faultReport (severity : Severity) (reason : Nat) (s : State) : Report :=
  { kind := 0x44#8, severity := severity
    body := [0#8] ++ u8 reason ++ i24 s.pos.counter ++ u8 s.stroke.state.code ++
      bytes2 s.stroke.number }

/-- The fault has been taken but for its halt cause: the position unit is `p`, and it is
reported. -/
def State.faulted (reason : Nat) (p : Pos) (s : State) : State :=
  post (faultReport (faultSeverity s.stroke.state) reason s) { s with pos := p }

/-- A fault loses the reference (03 R42). -/
theorem faults_unreferenced {s : State} {c : Instr} {reason : Nat} {p : Pos}
    (h : s.faults c reason p) : p.referenced = false := by
  obtain ⟨-, -, rfl⟩ | ⟨ph, -, -, -, rfl⟩ := h
  · rfl
  · cases ph <;> rfl

/-- The effect of a fault: its report, its halt cause in a guarded state, and the loss of home. -/
theorem exec_fault {s : State} {c : Instr} {reason : Nat} {p : Pos} (ready : s.Ready)
    (h : s.faults c reason p) :
    exec c s = .next (transmit true (homeChange s.home
      (if s.stroke.state.guarded then halt .encoderFault (s.faulted reason p)
        else s.faulted reason p))) := by
  obtain ⟨rfl, rfl, rfl⟩ | ⟨ph, command, beyond, rfl, left⟩ := h
  · exact live_ready ready _
  · have limit : encoderFaultTaken .limit (s.onPos (Pos.flip ph)) = homeChange s.home
        (if s.stroke.state.guarded then halt .encoderFault (s.faulted 2 p) else s.faulted 2 p) := by
      subst left
      cases ph <;> rfl
    rw [← limit]
    obtain rfl | rfl := command
    · exact (live_ready ready _).trans (by rw [encoderCount, beyond]; rfl)
    · exact (live_ready ready _).trans (by rw [encoderFault, beyond]; rfl)

namespace State.SentAs

variable {n : Nat} {s t : State} {b : Bool}

/-- A fault in a ready part is reported. -/
theorem faulted {reason : Nat} {p : Pos} (ready : s.Ready) :
    (s.faulted reason p).SentAs 15
      (State.reported (faultReport (faultSeverity s.stroke.state) reason s) { s with pos := p }) :=
  (of_fed (s := { s with pos := p }) ready.quiet ready.fed).post _

/-- What the transmitter chooses has no part in home. -/
theorem home_eq (h : s.SentAs n t) : s.home = t.home := by
  rw [← h.sent]; rfl

/-! ### Home (04 R57, R58) -/

/-- A change that leaves home as it was does nothing. -/
theorem homeChange_same (h : s.SentAs n t) (still : t.home = b) :
    (homeChange b s).SentAs n t := by
  rw [Machine.homeChange_same (h.home_eq.trans still)]
  exact h

theorem homeChange_lost (h : s.SentAs n t) (away : t.home = false) :
    homeChange true s = homeLost s := by
  simp [homeChange, h.home_eq.trans away]

theorem homeChange_reached (h : s.SentAs n t) (home : t.home = true) :
    homeChange false s = homeReached s := by
  simp [homeChange, h.home_eq.trans home]

/-- Home that is lost with no operation running and outside READY loses nothing more. -/
theorem homeLost_idle (h : s.SentAs n t) (idle : t.cal.run = none)
    (unready : t.stroke.state ≠ .ready) : (homeLost s).SentAs n t := by
  obtain ⟨hd, hr, rfl⟩ := h
  rw [homeLost, abandonCal_idle (s := s) idle,
    if_neg (show ¬s.stroke.state = .ready from unready)]
  exact ⟨hd, hr, rfl⟩

/-- A change that leaves the ram away from home loses nothing more where it was away before, or
where no operation runs outside READY. -/
theorem homeChange_away (h : s.SentAs n t) (away : t.home = false)
    (nothing : b = false ∨ (t.cal.run = none ∧ t.stroke.state ≠ .ready)) :
    (homeChange b s).SentAs n t := by
  obtain rfl | ⟨idle, unready⟩ := nothing
  · exact h.homeChange_same away
  · cases b with
    | false => exact h.homeChange_same away
    | true =>
      rw [h.homeChange_lost away]
      exact h.homeLost_idle idle unready

/-- Home that is lost outside READY abandons a running operation (02 R37). -/
theorem homeLost_abandons (h : s.SentAs (n + 1) t) (unready : t.stroke.state ≠ .ready) :
    (homeLost s).SentAs n t.abandoned := by
  rw [homeLost, abandonCal_stroke, if_neg (by rw [← h.sent] at unready; exact unready)]
  exact h.abandoned

/-- Home that is lost with the reference in READY starts a stroke that ENCODER_FAULT halts (03 R47,
04 R66). -/
theorem homeLost_starts (h : s.SentAs (n + 3) t) (idle : t.cal.run = none)
    (ready : t.stroke.state = .ready) (sensed : t.guard.sensed = .high) (guard : t.guardOk = true)
    (unassigned : t.homeAssigned = false) (unreferenced : t.pos.referenced = false) :
    (homeLost s).SentAs n (t.started.haltedBy .encoderFault) := by
  have away : t.started.home = false :=
    home_unreferenced (s := t.started) unassigned unreferenced
  obtain ⟨hd, hr, rfl⟩ := h
  have approached : s.approached.SentAs (n + 2) s.seen.started :=
    SentAs.approached ⟨hd, hr, rfl⟩
  have halted := approached.halt_descending .encoderFault rfl
  rw [approached.home_eq, away] at halted
  rw [homeLost, abandonCal_idle (s := s) idle,
    if_pos (show s.stroke.state = .ready from ready), strokeStart_eq,
    giveApproachCauses_unreferenced (s := s.approached) sensed guard unassigned unreferenced]
  exact halted

/-- The ram that reaches home releases a reset hold (05 R101), and in HALTED and RETRACT ends the
stroke (04 R77). -/
theorem homeReached (h : s.SentAs (n + 1) t) :
    (homeReached s).SentAs n
      (if t.stroke.state.returning then t.holdReleased.ended else t.holdReleased) := by
  have e : s.stroke.state = t.stroke.state := by rw [← h.sent]; rfl
  rw [Machine.homeReached, removeReason_eq]
  simp only
  rw [e]
  exact h.holdReleased.endStroke_ite _

end State.SentAs

/-- A halt in HOLD writes nothing that home reads. -/
theorem heldBy_home (c : HaltCause) (s : State) : (s.heldBy c).home = s.home := by
  obtain ⟨cause, count, written⟩ := withSecondary_writes c s.stroke
  rw [State.heldBy, written]
  rfl

/-- Home is the same where the stroke may have ended. -/
theorem ite_ended_home (b : Bool) (s : State) : (if b then s.ended else s).home = s.home := by
  split <;> rfl

/-! ### An encoder fault by the state it finds (03 R42, R47) -/

section fault

variable {s : State} {c : Instr} {reason : Nat} {p : Pos} (ready : s.Ready)
  (h : s.faults c reason p)

include ready h

/-- Outside APPROACH, CAPTURE and HOLD a fault is reported, and home may be lost. -/
theorem exec_fault_unguarded (hs : s.stroke.state.guarded = false) :
    ∃ w, w.SentAs 15 (State.reported
        (faultReport (if s.stroke.state.returning then .stroke else .note) reason s)
        { s with pos := p }) ∧
      exec c s = .next (transmit true (homeChange s.home w)) := by
  refine ⟨s.faulted reason p, faultSeverity_unguarded hs ▸ .faulted ready, ?_⟩
  rw [exec_fault ready h, hs]
  rfl

/-- In APPROACH and CAPTURE it is reported and halts the stroke, which ends there with the ram
home. -/
theorem exec_fault_descending (hs : s.stroke.state.descending = true) :
    let u := State.reported (faultReport .stroke reason s) { s with pos := p }
    ∃ w, w.SentAs 13
        (if ({ s with pos := p } : State).home then (u.haltedBy .encoderFault).ended
          else u.haltedBy .encoderFault) ∧
      exec c s = .next (transmit true (homeChange s.home w)) := by
  have hg : s.stroke.state.guarded = true := by
    cases hk : s.stroke.state <;> simp_all [StrokeState.descending, StrokeState.guarded]
  have halted := (State.SentAs.faulted (reason := reason) (p := p) ready).halt_descending
    .encoderFault hs
  rw [faultSeverity_guarded hg] at halted
  refine ⟨_, halted, ?_⟩
  rw [exec_fault ready h, hg]
  rfl

/-- In HOLD it is reported and halts the stroke after its outcome. -/
theorem exec_fault_hold (hs : s.stroke.state = .hold) :
    let u := State.reported (faultReport .stroke reason s) { s with pos := p }
    ∃ w, w.SentAs 13
        (if ({ s with pos := p } : State).home then (u.heldBy .encoderFault).ended
          else u.heldBy .encoderFault) ∧
      exec c s = .next (transmit true (homeChange s.home w)) := by
  have hg : s.stroke.state.guarded = true := by rw [hs]; rfl
  have halted := (State.SentAs.faulted (reason := reason) (p := p) ready).halt_hold .encoderFault hs
  rw [faultSeverity_guarded hg] at halted
  refine ⟨_, halted, ?_⟩
  rw [exec_fault ready h, hg]
  rfl

end fault

/-! ### The reference pulse (03 R44, R45) -/

/-- A slip is a referenced counter outside −2 to 2 (03 R45). -/
theorem slips_iff (p : Pos) :
    p.slips = true ↔ p.referenced = true ∧ (p.counter < -2 ∨ 2 < p.counter) := by
  simp [Pos.slips]

theorem slipSeverity_eq (k : StrokeState) :
    slipSeverity k =
      if k ∈ [StrokeState.approach, .capture, .hold] then .stroke else .note := by
  cases k <;> rfl

/-- The pulse has been taken but for what it does to home: the counter is 0 and referenced, and a
slip is reported with the counter before it. -/
def State.pulsed (s : State) : State :=
  let u : State := { s with pos := { s.pos with counter := 0, referenced := true, encZ := .high } }
  if s.pos.referenced = true ∧ (s.pos.counter < -2 ∨ 2 < s.pos.counter) then
    u.reported
      { kind := 0x44#8
        severity := if s.stroke.state ∈ [StrokeState.approach, .capture, .hold] then .stroke
          else .note
        body := [1#8, 0#8] ++ i24 s.pos.counter ++ u8 s.stroke.state.code ++
          bytes2 s.stroke.number }
  else u

/-- The report of a slip has no part in home. -/
theorem pulsed_home (s : State) :
    s.pulsed.home = ({ s with
      pos := { s.pos with counter := 0, referenced := true, encZ := .high } } : State).home := by
  unfold State.pulsed
  split <;> rfl

theorem pulsed_stroke (s : State) : s.pulsed.stroke = s.stroke := by
  unfold State.pulsed
  split <;> rfl

/-- A pulse puts the ram home where its position tells of home, and never takes it away (04 R57). -/
theorem pulsed_home_of_home {s : State} (h : s.home = true) : s.pulsed.home = true := by
  rw [pulsed_home]
  cases ha : s.homeAssigned with
  | true => exact (home_assigned ha _).trans h
  | false =>
    have none : s.lines.holding .home = none := by simpa [State.homeAssigned] using ha
    simp [State.home, none]

/-- REFERENCE_PULSE: the pulse with its report, then what it does to home (log 36). -/
theorem exec_referencePulse {s : State} (ready : s.Ready) :
    ∃ u, u.SentAs 15 s.pulsed ∧
      exec .referencePulse s = .next (transmit true (homeChange s.home u)) := by
  have fed : ({ s with pos := { s.pos with
      counter := 0, referenced := true, encZ := .high } } : State).SentAs 16 _ :=
    .of_fed ready.quiet ready.fed
  refine ⟨_, ?_, live_ready ready _⟩
  unfold State.pulsed
  rw [← slipSeverity_eq, if_congr (slips_iff s.pos).symm rfl rfl]
  split
  · exact fed.post _
  · exact fed.mono (by decide)

/-! ### The statement -/

/-- Settles O47, by the report, the halt cause and the change of home, each taken in the part that
the transmitter leaves. -/
theorem encoderFaultsAndReferencePulses : Obligations.EncoderFaultsAndReferencePulses := by
  refine ⟨fun ph p => beyond_iff ph, fun ph s => exec_encoderFault_legal, ?_, ?_, ?_⟩
  · intro s c reason p ready unassigned fault u event
    have unreferenced : u.pos.referenced = false := faults_unreferenced fault
    have lost : u.home = false := home_unreferenced (s := u) unassigned unreferenced
    refine ⟨fun outside nothing => ?_, fun r outside unready home run => ?_,
      fun state home idle sensed guard => ?_, fun descent nothing => ?_, fun hold nothing => ?_⟩
    · obtain ⟨w, sent, e⟩ := exec_fault_unguarded ready fault outside
      rw [e, (sent.homeChange_away lost nothing).transmit]
      rfl
    · obtain ⟨w, sent, e⟩ := exec_fault_unguarded ready fault outside
      rw [e, home, sent.homeChange_lost lost, (sent.homeLost_abandons unready).transmit]
      rfl
    · obtain ⟨w, sent, e⟩ := exec_fault_unguarded ready fault (by rw [state]; rfl)
      rw [e, home, sent.homeChange_lost lost,
        (sent.homeLost_starts idle state sensed guard unassigned unreferenced).transmit, state]
      rfl
    · obtain ⟨w, sent, e⟩ := exec_fault_descending ready fault descent
      rw [lost] at sent
      rw [e, (sent.homeChange_away lost (nothing.imp_right fun idle => ⟨idle, nofun⟩)).transmit]
      rfl
    · obtain ⟨w, sent, e⟩ := exec_fault_hold ready fault hold
      rw [lost] at sent
      rw [e, (sent.homeChange_away ((heldBy_home _ _).trans lost)
        (nothing.imp_right fun idle => ⟨idle, nofun⟩)).transmit]
      rfl
  · intro s c reason p ready assigned fault u
    have still : ({ s with pos := p } : State).home = s.home := home_assigned assigned p
    refine ⟨fun outside => ?_, fun descent => ?_, fun hold => ?_⟩
    · obtain ⟨w, sent, e⟩ := exec_fault_unguarded ready fault outside
      rw [e, (sent.homeChange_same still).transmit]
      rfl
    · obtain ⟨w, sent, e⟩ := exec_fault_descending ready fault descent
      rw [still] at sent
      rw [e, (sent.homeChange_same ((ite_ended_home _ _).trans still)).transmit]
      rfl
    · obtain ⟨w, sent, e⟩ := exec_fault_hold ready fault hold
      rw [still] at sent
      rw [e, (sent.homeChange_same
        ((ite_ended_home _ _).trans ((heldBy_home _ _).trans still))).transmit]
      rfl
  · intro s ready u v
    obtain ⟨w, sent, e⟩ := exec_referencePulse ready
    have home : u.home = s.pulsed.home := (pulsed_home s).symm
    rw [e, home]
    refine ⟨pulsed_home_of_home, fun still => ?_, fun away reached state => ?_,
      fun away reached state => ?_⟩
    · rw [(sent.homeChange_same still).transmit]
      rfl
    · rw [away, sent.homeChange_reached reached, sent.homeReached.transmit, pulsed_stroke, state]
      rfl
    · rw [away, sent.homeChange_reached reached, sent.homeReached.transmit, pulsed_stroke, state]
      rfl

end Sys2Proof.Machine
end

section
/-! SUPPORT. ARM and DISARM (04 R64, R65): the preconditions in their order, and what is entered. -/

namespace Sys2Proof.Machine

/-! ### The preconditions of ARM (04 R64) -/

/-- A segment holds back ARM where it is in the table, enabled, unmasked, not OK and carries a pin. -/
theorem holdsBackArm_iff (s : State) (n : Nat) : holdsBackArm s n = true ↔ notOkForArm s n := by
  have load : 1 ≤ s.map.load n ↔ ∃ p ∈ s.map.active, p.segment = n := by
    simp [MapUnit.load, Nat.one_le_iff_ne_zero]
  unfold holdsBackArm notOkForArm Acq.seg
  rw [List.getD_eq_getElem?_getD]
  cases hg : s.acq.segs[n]? with
  | none => simp [Segment.initial]
  | some g => simp [load, and_assoc, and_comm, and_left_comm]

/-- No segment holds back ARM. -/
theorem firstNotOk_none {s : State} : firstNotOk s = none ↔ ∀ n < 64, ¬notOkForArm s n := by
  simp only [firstNotOk, List.find?_eq_none, List.mem_range, holdsBackArm_iff]

/-- The lowest segment that holds back ARM. -/
theorem firstNotOk_some {s : State} {n : Nat} (hn : n < 64) (holds : notOkForArm s n)
    (lowest : ∀ k < n, ¬notOkForArm s k) : firstNotOk s = some n := by
  rw [firstNotOk, List.find?_range_eq_some]
  refine ⟨(holdsBackArm_iff s n).mpr holds, List.mem_range.mpr hn, fun k hk => ?_⟩
  rw [Bool.not_eq_true', ← Bool.not_eq_true, holdsBackArm_iff]
  exact lowest k hk

/-- A check that fails answers; one that does not leaves the rest to be examined. -/
theorem ite_some_eq_none {α : Type} {p : Prop} [Decidable p] {x : α} {rest : Option α} :
    (if p then some x else rest) = none ↔ ¬p ∧ rest = none := by
  split <;> simp_all

/-- An ARM is accepted where every precondition holds. -/
theorem armRefusal_none_iff (s : State) : armRefusal s = none ↔ ∀ c ∈ armConditions s, c.2 := by
  have assigned : ¬(!s.homeAssigned && !s.pos.referenced) = true ↔
      s.homeAssigned = true ∨ s.pos.referenced = true := by
    cases s.homeAssigned <;> simp
  simp only [armRefusal, ite_some_eq_none, assigned, armConditions, List.forall_mem_cons,
    ← firstNotOk_none]
  cases firstNotOk s with
  | some n => simp
  | none => simp [ite_some_eq_none]

/-- A precondition that fails after all before it have held is the reason of the refusal. -/
theorem armRefusal_first {s : State} {i : Nat} {c : Nat × Prop} (hc : (armConditions s)[i]? = some c)
    (fails : ¬c.2) (before : ∀ d ∈ (armConditions s).take i, d.2) (general : c.1 ≠ 7) :
    armRefusal s = some (c.1, none) := by
  simp only [armConditions, ← firstNotOk_none, ← Bool.or_eq_true] at hc before
  simp only [armRefusal, ← Bool.not_or]
  generalize (s.homeAssigned || s.pos.referenced) = placed at *
  rcases i with _ | _ | _ | _ | _ | _ | _ | _ | _ | i <;>
    simp only [List.getElem?_cons_zero, List.getElem?_cons_succ, Option.some.injEq,
      List.getElem?_nil, reduceCtorEq] at hc <;> subst hc <;>
    simp_all [List.take]

/-- A segment that is not OK is the reason once the six preconditions before it have held. -/
theorem armRefusal_segment {s : State} {n : Nat} (before : ∀ d ∈ (armConditions s).take 6, d.2)
    (hn : n < 64) (holds : notOkForArm s n) (lowest : ∀ k < n, ¬notOkForArm s k) :
    armRefusal s = some (7, some n) := by
  simp only [armConditions, List.take, List.forall_mem_cons, ← Bool.or_eq_true] at before
  obtain ⟨cleared, resting, params, map, placed, tared, -⟩ := before
  simp only [armRefusal, ← Bool.not_or, cleared, resting, params, map, placed, tared,
    firstNotOk_some hn holds lowest]
  rfl

/-! ### ARM by what is found (04 R64; log 38) -/

section serveArm

variable {s : State}

theorem serveArm_state (h : s.stroke.state.idle = false) : serveArm s = (s, .refusal .state) := by
  simp [serveArm, h]

theorem serveArm_refused {reason : Nat} {segment : Option Nat} (idle : s.stroke.state.idle = true)
    (h : armRefusal s = some (reason, segment)) :
    serveArm s = (s, .reply .notReady (u8 reason ++ segmentField segment)) := by
  simp [serveArm, idle, h]

/-- The map that the commit left running installs may hold the ARM back. -/
theorem serveArm_refusedAfter {reason : Nat} {segment : Option Nat}
    (idle : s.stroke.state.idle = true) (h : armRefusal s = none)
    (after : armRefusal (commitClosed s) = some (reason, segment)) :
    serveArm s = (s, .reply .notReady (u8 reason ++ segmentField segment)) := by
  simp [serveArm, idle, h, after]

theorem serveArm_accepted (idle : s.stroke.state.idle = true) (h : armRefusal s = none)
    (after : armRefusal (commitClosed s) = none) :
    serveArm s = (enterState .ready (commitClosed s), .ok) := by
  simp [serveArm, idle, h, after]

end serveArm

/-! ### A commit that a link reset has left running (06 R112; log 38) -/

/-- The close of a commit does not read or write the link. -/
theorem closeCommit_withLink (c : Commit) (l : Link) (s : State) :
    closeCommit c { s with link := l } = { closeCommit c s with link := l } := by
  unfold closeCommit
  cases c.refusal <;> rfl

theorem commitClosed_withLink (l : Link) (s : State) :
    commitClosed { s with link := l } = { commitClosed s with link := l } := by
  unfold commitClosed
  cases hc : s.map.commit with
  | none => rfl
  | some c => exact closeCommit_withLink c l s

theorem commitClosed_some {s : State} {c : Commit} (h : s.map.commit = some c) :
    commitClosed s = closeCommit c s := by
  simp only [commitClosed, h]

/-- What an ARM acts on differs from what it finds in the map unit and the engine alone. -/
theorem commitClosed_eq (s : State) :
    commitClosed s = { s with map := (commitClosed s).map, engine := (commitClosed s).engine } := by
  cases hc : s.map.commit with
  | none => rw [commitClosed_none hc]
  | some c =>
    rw [commitClosed_some hc]
    exact (closeCommit_eq c s).2

/-- A commit leaves a valid map valid (06 R110, R111). -/
theorem closeCommit_valid (c : Commit) {s : State} (h : s.map.valid = true) :
    (closeCommit c s).map.valid = true := by
  unfold closeCommit
  cases c.refusal with
  | none => rfl
  | some p => exact h

/-- What an ARM acts on is as ready to serve as what it finds. -/
theorem commitClosed_serving {s : State} (h : s.Serving) : (commitClosed s).Serving := by
  rw [commitClosed_eq]
  exact ⟨⟨h.runs, h.quiet, h.fed⟩, h.buffer, h.room⟩

/-- In a serving part the end of a commit left running installs or drops it, with no reply. -/
theorem exec_commitEnd_orphaned {s : State} {c : Commit} (serving : s.Serving)
    (idle : s.stroke.state.idle = true) (hc : s.map.commit = some c) :
    exec .mapCommitCompletion s = .next (commitClosed s) := by
  obtain ⟨⟨-, -, fed⟩, buffer, -⟩ := commitClosed_serving serving
  have unheld : (closeCommit c s).link.buffer ≠ .mapCommit := by
    rw [← commitClosed_some hc, buffer]
    nofun
  refine (live_ready serving.toReady _).trans (congrArg Host.Outcome.next ?_)
  simp only [commitEnd, hc, idle, if_true, commitReply, if_neg unheld]
  rw [← commitClosed_some hc]
  exact transmit_fed fed

/-- The first six preconditions, and the last two, do not depend on which map stands, but for its
being valid. -/
theorem armConditions_commitClosed {s : State} (holds : ∀ c ∈ armConditions s, c.2) :
    ∀ d ∈ (armConditions (commitClosed s)).take 6, d.2 := by
  have valid : (commitClosed s).map.valid = true := by
    have now : s.map.valid = true := by
      simp only [armConditions, List.forall_mem_cons] at holds
      obtain ⟨-, -, -, map, -⟩ := holds
      exact map
    cases hc : s.map.commit with
    | none => rw [commitClosed_none hc]; exact now
    | some c => rw [commitClosed_some hc]; exact closeCommit_valid c now
  simp only [armConditions, List.forall_mem_cons] at holds
  obtain ⟨cleared, resting, params, -, placed, tared, -⟩ := holds
  rw [commitClosed_eq]
  simp only [armConditions, List.take, List.forall_mem_cons]
  exact ⟨cleared, resting, params, valid, placed, tared, nofun⟩

/-- An ARM that nothing holds back, before the end of a commit left running and after it, enters
READY. -/
theorem exec_arm_accepted {s : State} (serving : s.Serving) (idle : s.stroke.state.idle = true)
    (holds : ∀ c ∈ armConditions s, c.2) (after : ∀ c ∈ armConditions (commitClosed s), c.2) :
    exec .arm s = .next ({ commitClosed s with
      stroke := { (commitClosed s).stroke with state := .ready } }.replied 0x12#8 .ok []) := by
  have link : (commitClosed s).link = s.link := by rw [commitClosed_eq]
  have still : armRefusal { commitClosed s with link := s.link.heard } = none :=
    (armRefusal_none_iff (commitClosed s)).mpr after
  have served := serveArm_accepted (s := { s with link := s.link.heard }) idle
    ((armRefusal_none_iff s).mpr holds) (by rw [commitClosed_withLink]; exact still)
  rw [commitClosed_withLink] at served
  exact request_acts (u := enterState .ready (commitClosed s)) serving rfl served link
    (commitClosed_serving serving).quiet

/-- Settles O17, by the preconditions in their order, on the map as it stands and on the one that a
commit left running installs. -/
theorem armExaminesItsPreconditions : Obligations.ArmExaminesItsPreconditions := by
  intro s serving
  have refused (reason : Nat) (segment : Option Nat)
      (h : serveArm { s with link := s.link.heard } =
        ({ s with link := s.link.heard }, .reply .notReady (u8 reason ++ segmentField segment))) :
      exec .arm s = .next (s.replied 0x12#8 .notReady (u8 reason ++ segmentField segment)) :=
    request_read serving rfl h
  refine ⟨fun busy => ?_, fun idle settled holds => ?_, fun idle running holds => ?_,
    fun i c idle hc fails before general => ?_, fun n idle before hn holds lowest => ?_⟩
  · exact request_read serving rfl (serveArm_state busy)
  · have accepted := exec_arm_accepted serving idle holds (by rwa [commitClosed_none settled])
    rwa [commitClosed_none settled] at accepted
  · obtain ⟨c, hc⟩ := Option.isSome_iff_exists.mp running
    refine ⟨_, exec_commitEnd_orphaned serving idle hc, commitClosed_serving serving, ?_, ?_,
      exec_arm_accepted serving idle holds, fun n hn held lowest => ?_⟩
    · rw [commitClosed_some hc]
      exact (closeCommit_eq c s).1
    · rw [commitClosed_eq]
    · have after := armRefusal_segment (armConditions_commitClosed holds) hn held lowest
      refine refused 7 (some n) (serveArm_refusedAfter idle ((armRefusal_none_iff s).mpr holds) ?_)
      rw [commitClosed_withLink]
      exact after
  · exact refused c.1 none (serveArm_refused idle (armRefusal_first hc fails before general))
  · exact refused 7 (some n) (serveArm_refused idle (armRefusal_segment before hn holds lowest))

/-! ### DISARM (04 R65) -/

end Sys2Proof.Machine
end

section
/-! SUPPORT. Requests whose owner acts on the link or posts reports before its answer: DISARM and ABORT
(04 R65, R75). -/

namespace Sys2Proof.Machine

/-! ### An answer over what the owner has made of the link (10 R182, R184) -/

/-- A request has been heard; nothing else has changed. -/
def State.heard (s : State) : State := { s with link := s.link.heard }

/-- The reply to a request of `kind`. -/
def Reply.answering (kind : Byte) (st : Status) (d : List Byte) : Reply :=
  { kind := kind + 0x80#8, status := st, detail := d, resets := false }

section answers

variable {s u : State} {r : Request} {srv : State → State × Answer} {st : Status} {d : List Byte}
  (serving : s.Serving) (kind : isRequestKind r.kind = true)

include serving kind

/-- A request whose owner leaves the reply side of the link as it was: its reply goes behind the queue,
and the transmitter chooses. -/
theorem request_queued (served : srv s.heard = (u, .reply st d)) (buffer : u.link.buffer = .empty)
    (replies : u.link.replies = s.link.replies) :
    request r srv s = .next (transmit true { u with
      link := { u.link with replies := u.link.replies ++ [.answering r.kind st d] } }) := by
  have empty : s.heard.link.buffer = .empty := serving.buffer
  have reload : reloadWatchdog s = s.heard := rfl
  rw [request, live_ready serving.toReady]
  simp only [offer, reload, empty, served, answer]
  rw [place_made (by rw [replies]; exact serving.room) rfl, ← buffer]
  simp [replyTo, replyKind, kind, Reply.answering]

/-- With nothing else to send the reply is sent or queued, over what the owner has made of the link. -/
theorem request_over (served : srv s.heard = (u, .reply st d)) (buffer : u.link.buffer = .empty)
    (replies : u.link.replies = s.link.replies) (due : u.due = []) (fed : u.link.fed) :
    request r srv s = .next { u with link := u.link.replied (.answering r.kind st d) } := by
  rw [request_queued serving kind served buffer replies, transmit_answered due fed buffer]

end answers

/-! ### An OK behind reports (10 R184, log 8) -/

/-- The reply side of the link: the frame in transmission, the receive buffer, the replies queued. -/
def State.ReplySide (f : Option OutFrame) (b : Buffer) (q : List Reply) (s : State) : Prop :=
  s.link.sending = f ∧ s.link.buffer = b ∧ s.link.replies = q

/-- A free transmitter with one reply and reports to send takes the reply or the oldest report. -/
theorem transmit_either {s : State} {p : Report} {ps : List Report} (r : Reply) (due : s.due = [])
    (sending : s.link.sending = none) (buffer : s.link.buffer = .empty)
    (replies : s.link.replies = []) (reports : s.link.reports = p :: ps) :
    let queued : State := { s with link := { s.link with replies := s.link.replies ++ [r] } }
    transmit true queued = { s with
      freeCount := s.freeCount + 1
      link := { s.link with replies := [r], reports := ps, sending := some (.report p) } } ∨
    transmit true queued = { s with
      freeCount := s.freeCount + 1, link := { s.link with sending := some (.reply r) } } := by
  intro queued
  have undue : queued.due.contains Due.toolReset = false := by simp [queued, due]
  have one : queued.link.replies = [r] := by simp [queued, replies]
  have unowed : ({ queued.link with replies := [], sending := some (.reply r) } : Link).replyDue =
      false := by
    simp [queued, Link.replyDue, buffer]
  have chosen : transmit true queued = (sendReport p ps queued).tickFree ∨
      transmit true queued = (sendReply r [] queued).tickFree := by
    simp only [transmit, show queued.link.sending = none from sending, undue, one,
      show queued.link.reports = p :: ps from reports, Bool.false_eq_true, if_false, if_true]
    split
    · exact .inl rfl
    · exact .inr rfl
  refine chosen.imp (fun e => e.trans ?_) (fun e => e.trans ?_)
  · rw [← one]; rfl
  · rw [← replies] at unowed
    simp [sendReply, State.onLink, unowed, State.tickFree, queued, ← replies]

/-- An owner has posted reports and answers OK: at a transmitter in use the OK is queued, and at a free
one the OK and the first report go out in either order. -/
theorem request_answersOk {n : Nat} {s v u : State} {r : Request} {srv : State → State × Answer}
    (serving : s.Serving) (kind : isRequestKind r.kind = true) (served : srv s.heard = (v, .ok))
    (side : v.ReplySide s.link.sending .empty s.link.replies) (sent : v.SentAs n u.heard)
    (reported : u.link.sending.isSome = true) : State.answersOk r.kind s u (request r srv s) := by
  obtain ⟨sending, buffer, replies⟩ := side
  obtain ⟨due, -, seen⟩ := sent
  rw [request_queued serving kind served buffer replies]
  refine ⟨fun busy => ?_, fun idle => ?_⟩
  · rw [← sending] at busy
    have heard : v = u.heard := by
      rw [← seen, State.seen, Link.chosen_fed fun e => by simp [e] at busy]
    subst heard
    rw [State.replied, Link.replied, if_pos (show u.link.heard.sending.isSome = true from busy)]
    exact congrArg Host.Outcome.next (transmit_busy busy)
  · rw [idle] at sending
    have none : v.link.replies = [] := replies.trans (serving.fed idle).1
    have first : u.link.sending = v.link.reports.head?.map OutFrame.report := by
      rw [show u.link.sending = u.heard.link.sending from rfl, ← seen]
      simp [State.seen, Link.chosen, sending]
    cases reports : v.link.reports with
    | nil => simp [first, reports] at reported
    | cons p ps =>
      rw [reports] at first
      refine ⟨p, first, ?_⟩
      have left : v.link.reports = p :: u.link.reports := by
        rw [show u.link.reports = u.heard.link.reports from rfl, ← seen]
        simp [State.seen, Link.chosen, sending, reports]
      have rest (l : Link) : ({ u with freeCount := u.freeCount + 1, link := l } : State) =
          { v with freeCount := v.freeCount + 1, link := l } := by
        rw [show ({ u with freeCount := u.freeCount + 1, link := l } : State) =
          { u.heard with freeCount := u.heard.freeCount + 1, link := l } from rfl, ← seen]
        rfl
      have link : u.link.heard = v.link.chosen := by
        rw [show u.link.heard = u.heard.link from rfl, ← seen]
        rfl
      rw [rest, rest, link]
      rcases transmit_either (.answering r.kind .ok []) due sending buffer none left with e | e
      · refine .inl (congrArg Host.Outcome.next (e.trans ?_))
        simp [Link.chosen, sending, left, Reply.answering]
      · refine .inr (congrArg Host.Outcome.next (e.trans ?_))
        simp [Link.chosen, ← left, Reply.answering]

/-! ### What a halt leaves of the reply side -/

section replySide

variable {s : State} {f : Option OutFrame} {b : Buffer} {q : List Reply} (h : s.ReplySide f b q)

include h

theorem post_replySide (r : Report) : (post r s).ReplySide f b q := by
  unfold State.ReplySide
  rw [show (post r s).link = s.link.post r from rfl, Link.post_frame]
  exact h

theorem closeCapture_replySide : (closeCapture s).ReplySide f b q := by
  rw [closeCapture_eq]; exact h

theorem endStroke_replySide : (endStroke s).ReplySide f b q := by
  rw [endStroke_eq]; exact post_replySide h _

theorem ite_replySide {p : Prop} [Decidable p] {t : State} (ht : t.ReplySide f b q) :
    (if p then t else s).ReplySide f b q := by
  split
  · exact ht
  · exact h

theorem enterHalted_replySide (c : HaltCause) : (enterHalted c s).ReplySide f b q := by
  have entered : (stopWatchdog (enterState .halted s)).ReplySide f b q := h
  have posted := post_replySide entered
    (strokeEvent .stroke .halted c.code s.stroke.number s.pos.lastStation)
  have closed := ite_replySide (p := (s.stroke.quiet == .expired) = true) posted
    (closeCapture_replySide posted)
  exact ite_replySide closed (endStroke_replySide closed)

theorem halt_replySide (c : HaltCause) : (halt c s).ReplySide f b q := by
  unfold halt
  cases s.stroke.state with
  | approach | capture =>
    exact enterHalted_replySide
      (s := addReason .stroke (s.onStroke fun k => { k with outcome := .halt c })) h c
  | hold =>
    exact enterHalted_replySide
      (s := s.onStroke fun k => { recordSecondary c k with dwell := none }) h c
  | halted | retract | disarmed | ready | evaluate | complete => exact h

end replySide

/-! ### A request heard before a halt or after it (10 R187) -/

/-- A report goes to the same place in a link that has been heard. -/
theorem Link.reported_heard (r : Report) (l : Link) : l.heard.reported r = (l.reported r).heard := by
  have post : l.heard.post r = (l.post r).heard := by
    unfold Link.post
    rw [apply_ite Link.heard, apply_ite Link.heard]
    rfl
  unfold Link.reported
  rw [apply_ite Link.heard, post]
  rfl

/-- A halt stops the watchdog that hearing a frame restarts, and leaves the expiry count. -/
theorem haltedBy_heard (c : HaltCause) (s : State) : s.heard.haltedBy c = (s.haltedBy c).heard :=
  congrArg (fun l => ({ s.haltedBy c with link := l } : State))
    (Link.reported_heard (haltReport c s) { s.link with watchdog := none })

theorem heldBy_heard (c : HaltCause) (s : State) : s.heard.heldBy c = (s.heldBy c).heard :=
  congrArg (fun l => ({ s.heldBy c with link := l } : State))
    (Link.reported_heard (haltReport c s) { s.link with watchdog := none })

theorem ended_heard (s : State) : s.heard.ended = s.ended.heard :=
  congrArg (fun l => ({ s.ended with link := l } : State))
    (Link.reported_heard
      { kind := 0x40#8, severity := .info
        body := [7#8] ++ u8 s.stroke.outcome.code ++ bytes2 s.stroke.number ++
          u16 (s.pos.lastStation.getD 0xFFFF) } s.link)

/-- A report that has been posted finds the transmitter in use. -/
theorem Link.reported_sending (r : Report) (l : Link) : (l.reported r).sending.isSome = true := by
  unfold Link.reported
  split
  · rw [Link.post_frame]; assumption
  · rfl

/-! ### DISARM (04 R65) -/

section disarm

variable {s : State}

theorem serveDisarm_leaves (h : s.stroke.state = .ready ∨ s.stroke.state = .complete) :
    serveDisarm s = (disarm s, .ok) := by
  rcases h with k | k <;> simp [serveDisarm, k]

theorem serveDisarm_stands (h : s.stroke.state = .disarmed) : serveDisarm s = (s, .ok) := by
  simp [serveDisarm, h]

theorem serveDisarm_state (h : s.stroke.state.busy = true) :
    serveDisarm s = (s, .refusal .state) := by
  cases k : s.stroke.state <;> simp_all [serveDisarm, StrokeState.busy]

/-- A stopped watchdog stays stopped when a frame is heard. -/
theorem disarm_heard (s : State) : disarm s.heard = (disarm s).heard := rfl

/-- DISARMED is entered from READY and COMPLETE, and answered OK. -/
theorem request_disarms {r : Request} {srv : State → State × Answer} (serving : s.Serving)
    (kind : isRequestKind r.kind = true) (served : srv s.heard = (disarm s.heard, .ok)) :
    request r srv s = .next (State.replied r.kind .ok [] { s with
      stroke := { s.stroke with state := .disarmed }
      link := { s.link with watchdog := none } }) := by
  exact request_over serving kind served serving.buffer rfl serving.quiet serving.fed

end disarm

/-- Settles O18, by the three kinds of state it finds. -/
theorem disarmActsByState : Obligations.DisarmActsByState := by
  intro s serving
  refine ⟨fun leaves => ⟨request_disarms serving rfl (serveDisarm_leaves leaves), rfl⟩,
    fun stands => ?_, fun busy => ?_⟩
  · exact request_read serving rfl (serveDisarm_stands stands)
  · have inStroke : ∀ k ∈ [StrokeState.approach, .capture, .hold, .halted, .retract, .evaluate],
        k.busy = true := by decide
    exact request_read serving rfl (serveDisarm_state (inStroke _ busy))

/-! ### ABORT (04 R75) -/

section abort

variable {s : State}

theorem guarded_of_descending {k : StrokeState} (h : k.descending = true) : k.guarded = true := by
  cases k <;> simp_all [StrokeState.descending, StrokeState.guarded]

theorem serveAbort_halts (h : s.stroke.state.guarded = true) :
    serveAbort s = (halt .aborted s, .ok) := by
  cases k : s.stroke.state <;> simp_all [serveAbort, StrokeState.guarded]

theorem serveAbort_ready (h : s.stroke.state = .ready) : serveAbort s = (disarm s, .ok) := by
  simp [serveAbort, h]

theorem serveAbort_state (h : s.stroke.state ∈
    [StrokeState.disarmed, .halted, .retract, .evaluate, .complete]) :
    serveAbort s = (s, .refusal .state) := by
  cases k : s.stroke.state <;> simp_all [serveAbort]

/-- An ABORT that halts the stroke is answered OK behind the reports of the halt. -/
theorem exec_abort_halts {n : Nat} {u : State} (serving : s.Serving)
    (guarded : s.stroke.state.guarded = true) (sent : (halt .aborted s.heard).SentAs n u.heard)
    (reported : u.link.sending.isSome = true) :
    State.answersOk 0x14#8 s u (exec .abort s) := by
  have side : s.heard.ReplySide s.link.sending .empty s.link.replies := ⟨rfl, serving.buffer, rfl⟩
  exact request_answersOk (r := .abort) serving rfl (serveAbort_halts (s := s.heard) guarded)
    (halt_replySide side _) sent reported

end abort

/-- Settles O53, by the state ABORT finds and by home. -/
theorem abortHaltsTheStroke : Obligations.AbortHaltsTheStroke := by
  intro s serving
  have shown : s.heard.SentAs 16 s.heard := .of_fed serving.quiet serving.fed
  have same : s.heard.home = s.home := rfl
  refine ⟨fun descends away => ?_, fun descends atHome => ?_, fun hold away => ?_,
    fun hold atHome => ?_, fun ready => ?_, fun other => ?_⟩
  · have sent := shown.halt_descending .aborted descends
    rw [same, away, haltedBy_heard] at sent
    exact exec_abort_halts serving (guarded_of_descending descends) sent (Link.reported_sending _ _)
  · have sent := shown.halt_descending .aborted descends
    rw [same, atHome, haltedBy_heard, ended_heard] at sent
    exact exec_abort_halts serving (guarded_of_descending descends) sent (Link.reported_sending _ _)
  · have sent := shown.halt_hold .aborted hold
    rw [same, away, heldBy_heard] at sent
    exact exec_abort_halts serving (by rw [hold]; rfl) sent (Link.reported_sending _ _)
  · have sent := shown.halt_hold .aborted hold
    rw [same, atHome, heldBy_heard, ended_heard] at sent
    exact exec_abort_halts serving (by rw [hold]; rfl) sent (Link.reported_sending _ _)
  · exact request_disarms serving rfl (serveAbort_ready ready)
  · exact request_read serving rfl (serveAbort_state other)

end Sys2Proof.Machine
end

section
/-! SUPPORT. SET_STROKE and GET_STROKE (04 R61 to R63): the seventeen conditions in their order, and
what an accepted set makes of home. -/

namespace Sys2Proof.Machine

/-! ### Checks taken in order -/

/-- The checks of a list find the conditions of a list failing, each where those before it hold. -/
def ChecksAgree : List Bool → List Prop → Prop
  | [], [] => True
  | b :: bs, p :: ps => (b = true ↔ ¬p) ∧ (p → ChecksAgree bs ps)
  | [], _ :: _ | _ :: _, [] => False

theorem firstFailing_cons (b : Bool) (bs : List Bool) :
    firstFailing (b :: bs) = if b then some 0 else (firstFailing bs).map (· + 1) := by
  rw [firstFailing, List.findIdx?_cons]
  rfl

/-- The first condition that fails is the first check that does. -/
theorem firstFailing_some {bs : List Bool} {ps : List Prop} {i : Nat} {p : Prop}
    (h : ChecksAgree bs ps) (hp : ps[i]? = some p) (fails : ¬p) (before : ∀ q ∈ ps.take i, q) :
    firstFailing bs = some i := by
  induction bs generalizing ps i with
  | nil =>
    cases ps with
    | nil => simp at hp
    | cons q ps => exact h.elim
  | cons b bs ih =>
    cases ps with
    | nil => exact h.elim
    | cons q ps =>
      obtain ⟨first, rest⟩ := h
      rw [firstFailing_cons]
      cases i with
      | zero =>
        obtain rfl : q = p := by simpa using hp
        simp [first.mpr fails]
      | succ i =>
        have holds : q := before q (by simp)
        have passes : ¬b = true := fun e => first.mp e holds
        have later := ih (rest holds) (by simpa using hp) fun r hr => before r (by simp [hr])
        simp [passes, later]

/-- With every condition holding no check fails. -/
theorem firstFailing_none {bs : List Bool} {ps : List Prop} (h : ChecksAgree bs ps)
    (holds : ∀ q ∈ ps, q) : firstFailing bs = none := by
  induction bs generalizing ps with
  | nil => rfl
  | cons b bs ih =>
    cases ps with
    | nil => exact h.elim
    | cons q ps =>
      obtain ⟨first, rest⟩ := h
      have now : q := holds q (by simp)
      have passes : ¬b = true := fun e => first.mp e now
      have later := ih (rest now) fun r hr => holds r (by simp [hr])
      simp [firstFailing_cons, passes, later]

/-! ### The conditions of SET_STROKE (04 R61, R62) -/

/-- A check that a condition holds fails where the condition does. -/
theorem not_check_iff {b : Bool} {p : Prop} (h : b = true ↔ p) : (!b) = true ↔ ¬p := by
  rw [← h, Bool.not_eq_true', Bool.not_eq_true]

theorem within_iff {n : Nat} (lo hi : Int) (w : BitVec n) :
    (!within lo hi w) = true ↔ ¬(lo ≤ w.toInt ∧ w.toInt ≤ hi) :=
  not_check_iff (by simp [within])

theorem not_and_decide_iff (p q : Prop) [Decidable p] [Decidable q] :
    (!(decide p && decide q)) = true ↔ ¬(p ∧ q) :=
  not_check_iff (by simp)

theorem not_decide_iff (p : Prop) [Decidable p] : (!decide p) = true ↔ ¬p :=
  not_check_iff decide_eq_true_iff

/-- The three codes of a seating mode (04 R62). -/
theorem modeOf_eq (b : Byte) :
    modeOf b = [SeatingMode.force, .position, .either][b.toNat]? := by
  unfold modeOf
  by_cases h0 : b.toNat = 0
  · simp [h0]
  · by_cases h1 : b.toNat = 1
    · simp [h1]
    · by_cases h2 : b.toNat = 2
      · simp [h2]
      · have : 3 ≤ b.toNat := by omega
        simp [h0, h1, h2, this]

theorem strokeFails_agree (w : StrokeWire) : ChecksAgree w.fails (strokeConditions w) := by
  refine ⟨within_iff .., fun _ => ⟨not_and_decide_iff .., fun _ => ⟨not_and_decide_iff .., fun _ =>
    ⟨not_and_decide_iff .., fun _ => ⟨not_and_decide_iff .., fun _ => ⟨?mode, fun known =>
    ⟨not_and_decide_iff .., fun _ => ⟨within_iff .., fun _ => ⟨within_iff .., fun _ =>
    ⟨not_decide_iff _, fun _ => ⟨?seat, fun _ => ⟨not_decide_iff _, fun _ => ⟨not_decide_iff _,
    fun _ => ⟨not_and_decide_iff .., fun _ => ⟨within_iff .., fun _ => ⟨not_and_decide_iff ..,
    fun _ => ⟨not_and_decide_iff .., fun _ => trivial⟩⟩⟩⟩⟩⟩⟩⟩⟩⟩⟩⟩⟩⟩⟩⟩⟩
  case mode =>
    rw [modeOf_eq, Option.isNone_iff_eq_none, List.getElem?_eq_none_iff]
    exact Nat.not_le.symm
  case seat =>
    refine not_check_iff ?_
    have modes : w.mode.toNat = 1 ∨ w.mode.toNat = 2 ↔ ¬modeOf w.mode = some .force := by
      have cases : w.mode.toNat = 0 ∨ w.mode.toNat = 1 ∨ w.mode.toNat = 2 := by omega
      rw [modeOf_eq]
      rcases cases with e | e | e <;> simp [e]
    rw [modes]
    simp [within, and_assoc, or_iff_not_imp_left]

/-! ### SET_STROKE by what is found (04 R62) -/

/-- The set is replaced and the results judged, before home is (04 R62). -/
def State.withParams (p : Params) (s : State) : State :=
  { s with
    stroke := { s.stroke with params := p, paramsValid := true }
    engine := if p = s.stroke.params then s.engine
      else { s.engine with results := [], summary := none, valid := false } }

theorem acceptParams_eq (p : Params) (s : State) :
    acceptParams p s = homeChange s.home (s.withParams p) := by
  unfold acceptParams State.withParams
  by_cases same : p = s.stroke.params
  · simp only [if_pos same]
    rfl
  · simp only [if_neg same]
    rfl

section serveSetStroke

variable {s : State} {w : StrokeWire}

theorem serveSetStroke_state (h : s.stroke.state.idle = false) :
    serveSetStroke w s = (s, .refusal .state) := by
  simp [serveSetStroke, h]

theorem serveSetStroke_field {i : Nat} (idle : s.stroke.state.idle = true)
    (h : firstFailing w.fails = some i) : serveSetStroke w s = (s, .reply .field (u8 i)) := by
  simp [serveSetStroke, idle, h]

theorem serveSetStroke_ok (idle : s.stroke.state.idle = true) (h : firstFailing w.fails = none) :
    serveSetStroke w s = (homeChange s.home (s.withParams w.params), .ok) := by
  simp [serveSetStroke, idle, h, acceptParams_eq]

end serveSetStroke

/-- In the idle states home that is lost abandons a running operation and starts no stroke. -/
theorem homeLost_of_idle {s : State} (idle : s.stroke.state.idle = true) :
    homeLost s = abandonCal s := by
  have unready : ¬s.stroke.state = .ready := by
    intro k
    rw [k] at idle
    cases idle
  rw [homeLost, abandonCal_stroke, if_neg unready]

/-- In the idle states home that is reached releases a reset hold and ends no stroke. -/
theorem homeReached_of_idle {s : State} (idle : s.stroke.state.idle = true) :
    homeReached s = s.holdReleased := by
  have stays : s.stroke.state.returning = false := by
    cases k : s.stroke.state <;> simp_all [StrokeState.idle, StrokeState.returning]
  rw [homeReached, removeReason_eq, if_congr (remove_resetHold_isEmpty s.guard.reasons) rfl rfl]
  simp only [stays, Bool.false_eq_true, if_false]
  rfl

/-- An operation is abandoned alike before a frame is heard and after it. -/
theorem abandoned_heard (s : State) : s.heard.abandoned = s.abandoned.heard := by
  have same : s.heard.cal = s.cal := rfl
  unfold State.abandoned
  rw [same]
  cases s.cal.run with
  | none => rfl
  | some r =>
    exact congrArg (fun l => ({ s with
        cal := { s.cal with run := none, switches := [false, false, false, false] }
        link := l } : State)) (Link.reported_heard r.abandonedReport s.link)

theorem abandonCal_replySide {s : State} {f : Option OutFrame} {b : Buffer} {q : List Reply}
    (h : s.ReplySide f b q) : (abandonCal s).ReplySide f b q := by
  cases hr : s.cal.run with
  | none => rw [abandonCal_idle hr]; exact h
  | some r => rw [abandonCal_running hr]; exact post_replySide h _

/-- The OK of a request whose owner has abandoned a running operation goes out with its CAL_DONE in
either order. -/
theorem request_abandons {s t : State} {r : Request} {srv : State → State × Answer} {run : CalRun}
    (serving : s.Serving) (kind : isRequestKind r.kind = true)
    (served : srv s.heard = (abandonCal t.heard, .ok)) (running : t.cal.run = some run)
    (link : t.link = s.link) (due : t.due = s.due) :
    State.answersOk r.kind s t.abandoned (request r srv s) := by
  have fed : t.heard.link.fed := by
    show t.link.heard.fed
    rw [link]
    exact serving.fed
  have shown : t.heard.SentAs 16 t.heard := .of_fed (due.trans serving.quiet) fed
  have side : t.heard.ReplySide s.link.sending .empty s.link.replies := by
    unfold State.ReplySide State.heard
    rw [link]
    exact ⟨rfl, serving.buffer, rfl⟩
  have sent := shown.abandoned
  rw [abandoned_heard] at sent
  refine request_answersOk serving kind served (abandonCal_replySide side) sent ?_
  simp only [State.abandoned, running]
  exact Link.reported_sending _ _

/-- Whatever the order of an OK and a report, they leave every block but the link as it was. -/
theorem answersOk_blocks {kind : Byte} {s u : State} {o : Host.Outcome State Fault Refusal}
    (h : State.answersOk kind s u o) :
    ∃ n l, o = .next { u with freeCount := n, link := l } := by
  obtain ⟨busy, free⟩ := h
  cases sending : s.link.sending with
  | some f => exact ⟨_, _, busy (by simp [sending])⟩
  | none =>
    obtain ⟨p, -, e | e⟩ := free sending
    · exact ⟨_, _, e⟩
    · exact ⟨_, _, e⟩

/-- Settles O15, by the conditions in their order, and by home before the set and after it. -/
theorem setStrokeReplacesTheSet : Obligations.SetStrokeReplacesTheSet := by
  refine ⟨fun w s serving => ⟨fun busy => ?_, fun i p idle hp fails before => ?_⟩, ?_⟩
  · exact request_read serving rfl (serveSetStroke_state busy)
  · exact request_read serving rfl
      (serveSetStroke_field idle (firstFailing_some (strokeFails_agree w) hp fails before))
  · intro w s mode serving idle holds named p t
    have params : w.params = p := by
      have code : (modeOf w.mode).getD .force = mode := by rw [modeOf_eq, named]; rfl
      rw [StrokeWire.params, code]
    have served : serveSetStroke w s.heard = (homeChange s.home t.heard, .ok) := by
      rw [serveSetStroke_ok (s := s.heard) idle (firstFailing_none (strokeFails_agree w) holds), params]
      rfl
    have lost (before : s.home = true) (after : t.home = false) :
        homeChange s.home t.heard = abandonCal t.heard := by
      rw [before, ← homeLost_of_idle (s := t.heard) idle]
      simp [homeChange, show t.heard.home = false from after]
    have idleLost (before : s.home = true) (after : t.home = false) (resting : s.cal.run = none) :
        exec (.setStroke w) s = .next (t.replied 0x10#8 .ok []) := by
      rw [lost before after, abandonCal_idle (s := t.heard) resting] at served
      exact request_acts serving rfl served rfl serving.quiet
    have abandons (before : s.home = true) (after : t.home = false) {r : CalRun}
        (running : s.cal.run = some r) :
        State.answersOk 0x10#8 s t.abandoned (exec (.setStroke w) s) := by
      rw [lost before after] at served
      exact request_abandons (t := t) (r := .setStroke w) serving rfl served running rfl rfl
    refine ⟨fun still => ?_, idleLost, fun before after => ?_, fun before after running => ?_,
      fun before after => ?_⟩
    · rw [homeChange_same (s := t.heard) still] at served
      exact request_acts serving rfl served rfl serving.quiet
    · cases running : s.cal.run with
      | none =>
        refine ⟨_, idleLost before after running, ?_, rfl, rfl, rfl, rfl⟩
        rw [if_pos rfl, ← running]
        rfl
      | some r =>
        obtain ⟨n, l, e⟩ := answersOk_blocks (abandons before after running)
        have left : t.abandoned = State.reported r.abandonedReport
            { t with cal := { s.cal with run := none, switches := List.replicate 4 false } } := by
          unfold State.abandoned
          rw [show t.cal.run = some r from running]
          rfl
        rw [left] at e
        exact ⟨_, e, rfl, rfl, rfl, rfl, rfl⟩
    · obtain ⟨r, hr⟩ := Option.isSome_iff_exists.mp running
      exact abandons before after hr
    · have reached : homeChange s.home t.heard = t.heard.holdReleased := by
        rw [before, ← homeReached_of_idle (s := t.heard) idle]
        simp [homeChange, show t.heard.home = true from after]
      rw [reached] at served
      exact request_acts serving rfl served rfl serving.quiet

/-! ### GET_STROKE (04 R63) -/

/-- Settles O16, by the reply of GET_STROKE and the reset parameters. -/
theorem getStrokeReturnsTheSet : Obligations.GetStrokeReturnsTheSet := by
  intro s serving
  refine ⟨?_, rfl, rfl⟩
  have valid : u8 (bit s.stroke.paramsValid) = [if s.stroke.paramsValid then 1#8 else 0#8] := by
    cases s.stroke.paramsValid <;> rfl
  rw [← valid]
  exact request_read serving rfl rfl

end Sys2Proof.Machine
end

section
/-! SUPPORT. The start of a stroke, its CAPTURE entry and its end by a count of the ram (04 R66, R68,
R77), and the timers of a stroke (04 R71, R76). -/

namespace Sys2Proof.Machine

/-! ### The start of a stroke (04 R66) -/

namespace State.SentAs

variable {n : Nat} {s t : State}

/-- What the transmitter chooses has no part in the stroke. -/
theorem stroke_eq (h : s.SentAs n t) : s.stroke = t.stroke := by
  rw [← h.sent]; rfl

/-- Home that is lost in READY starts a stroke, which nothing halts at once. -/
theorem homeLost_approaches (h : s.SentAs (n + 1) t) (idle : t.cal.run = none)
    (ready : t.stroke.state = .ready) (sensed : t.guard.sensed = .high) (guard : t.guardOk = true)
    (placed : t.homeAssigned = true ∨ t.pos.referenced = true) :
    (homeLost s).SentAs n t.started := by
  obtain ⟨hd, hr, rfl⟩ := h
  have approached : s.approached.SentAs n s.seen.started := SentAs.approached ⟨hd, hr, rfl⟩
  rw [homeLost, abandonCal_idle (s := s) idle,
    if_pos (show s.stroke.state = .ready from ready), strokeStart_eq,
    giveApproachCauses_none (s := s.approached) sensed guard placed]
  exact approached

/-- A count with capture closed, and no entry into it, ends with what it does to home. -/
theorem countTaken {before wasApproach : Bool} (h : (homeChange before s).SentAs n t)
    (short : wasApproach = true → t.stroke.state ≠ .approach)
    (closed : t.stroke.captureOpen = false) :
    (countTaken before wasApproach s).SentAs n t := by
  have e : Machine.countTaken before wasApproach s = homeChange before s := by
    unfold Machine.countTaken
    rw [← h.stroke_eq] at short closed
    simp only
    rw [if_neg, latchTest_closed closed]
    intro entered
    simp only [Bool.and_eq_true, beq_iff_eq] at entered
    obtain ⟨⟨was, is⟩, -⟩ := entered
    exact short was is
  rw [e]
  exact h

end State.SentAs

/-- Settles O42, by the start of the stroke that the loss of home brings. -/
theorem strokeStartsWhenTheRamLeavesHome : Obligations.StrokeStartsWhenTheRamLeavesHome := by
  intro ph s ready bounded state home away idle sensed guard placed closed number
  have shown : (s.counted ph).SentAs 16 (s.counted ph) := .of_fed ready.quiet ready.fed
  have started := shown.homeLost_approaches (n := 15) idle state sensed guard (by simpa using placed)
  rw [← shown.homeChange_lost away, ← home] at started
  have taken := started.countTaken (wasApproach := s.stroke.state == .approach) (by simp [state])
    closed
  rw [show exec (.encoderCount ph) s = _ from encoderCount_ready ready bounded, taken.transmit]
  simp only [State.started, counted_lastStation, counted_guard, sensed]
  rfl

/-! ### The CAPTURE entry (04 R68, 03 R48) -/

/-- CAPTURE has been entered and reported, with nothing latched yet (04 R68; log 15). -/
def State.captureEntered (s : State) : State :=
  State.reported
    { kind := 0x40#8, severity := .info
      body := [3#8, 0#8] ++ bytes2 s.stroke.number ++ u16 (s.pos.lastStation.getD 0xFFFF) }
    { s with
      stroke := { s.stroke with
        state := .capture, captureOpen := true, quiet := .running, captured := true }
      pos := { s.pos with high := 0, copies := some s.stroke.params.copies }
      profile := { records := [], condition := .capturing, number := s.stroke.number } }

namespace State.SentAs

variable {n : Nat} {s t : State}

theorem captureEntered (h : s.SentAs (n + 1) t) : (captureEntry s).SentAs n t.captureEntered := by
  obtain ⟨hd, hr, rfl⟩ := h
  rw [captureEntry_eq, strokeEvent_eq]
  exact of_post hd hr rfl

theorem latched (h : s.SentAs n t) : s.latched.SentAs n t.latched := by
  obtain ⟨hd, hr, rfl⟩ := h
  exact ⟨hd, hr, rfl⟩

end State.SentAs

/-- The count that reaches P0 in APPROACH enters CAPTURE and comes to the latching test (04 R68). -/
theorem countTaken_enters {s : State} (approach : s.stroke.state = .approach)
    (reached : (s.stroke.params.captureStart : Int) ≤ s.pos.counter) :
    countTaken s.home true s = latchTest (captureEntry s) := by
  simp only [countTaken, homeChange_same rfl]
  exact if_pos (by simp [approach, reached])

/-- Station 0 is latched at P0 (03 R48, R49). -/
theorem captureEntry_latches {s : State} (room : 2 ≤ s.stroke.params.maxStations)
    (uncounted : s.guard.counting = false)
    (reached : (s.stroke.params.captureStart : Int) ≤ s.pos.counter) :
    latchTest (captureEntry s) =
      examineLatch (captureEntry s).stationNow (captureEntry s).latched := by
  rw [latchTest_reached (s := captureEntry s) (c := s.stroke.params.copies) rfl rfl
    (show 0 < s.stroke.params.maxStations by omega)
    (show ((s.stroke.params.captureStart + 0 * s.stroke.params.pitch : Nat) : Int) ≤ s.pos.counter by
      simpa using reached),
    latchStation_capture (s := captureEntry s) rfl rfl uncounted, State.latchedWithin, if_neg]
  show ¬0 + 1 = s.stroke.params.maxStations
  omega

/-- Station 0 neither seats, with a span of 1 or more and below the seat position, nor ends the
travel. -/
theorem examineLatch_stationZero {s : State} {r : Station} (first : r.index = 0)
    (span : 1 ≤ s.stroke.params.span)
    (low : s.stroke.params.mode = .force ∨ r.position < s.stroke.params.seatPosition)
    (short : r.position < s.stroke.params.endPosition)
    (more : s.pos.high ≠ s.stroke.params.maxStations) : examineLatch r s = s := by
  have unseated : ¬s.seatingMet r := by
    rintro (⟨-, spans, -⟩ | ⟨mode, seats⟩)
    · omega
    · rcases low with force | low
      · exact mode force
      · omega
  rw [examineLatch_unseated unseated, if_neg]
  rintro (ends | last)
  · omega
  · exact more last

/-- Settles O43, by the entry, the latch of station 0, and the checks on it. -/
theorem captureEntryLatchesStationZero : Obligations.CaptureEntryLatchesStationZero := by
  intro ph s ready bounded approach home uncounted reached short stations span low
  have shown : (s.counted ph).SentAs 16 (s.counted ph) := .of_fed ready.quiet ready.fed
  have entered := (State.SentAs.captureEntered (n := 15) shown).latched
  have unended : examineLatch (captureEntry (s.counted ph)).stationNow
      (captureEntry (s.counted ph)).latched = (captureEntry (s.counted ph)).latched :=
    examineLatch_stationZero rfl span low short
      (show 1 ≠ s.stroke.params.maxStations by omega)
  rw [show exec (.encoderCount ph) s = _ from encoderCount_ready ready bounded, ← home,
    show (s.stroke.state == .approach) = true by simp [approach],
    countTaken_enters (s := s.counted ph) approach reached,
    captureEntry_latches (s := s.counted ph) stations uncounted reached, unended, entered.transmit]
  simp only [State.captureEntered, counted_lastStation]
  rfl

/-! ### The end of a stroke by its return (04 R77) -/

/-- Settles O46, by the release and the end that reaching home brings. -/
theorem homeEndsTheStroke : Obligations.HomeEndsTheStroke := by
  intro ph s ready bounded returns away home unheld left
  have shown : (s.counted ph).SentAs 16 (s.counted ph) := .of_fed ready.quiet ready.fed
  have reached := State.SentAs.homeReached (n := 15) shown
  rw [← shown.homeChange_reached home, ← away, if_pos (by exact returns)] at reached
  have taken := reached.countTaken (wasApproach := s.stroke.state == .approach) nofun rfl
  rw [show exec (.encoderCount ph) s = _ from encoderCount_ready ready bounded, taken.transmit]
  have reasons : { s.guard.reasons with stroke := false, resetHold := false } = left := by
    show StopSet.mk false _ _ = StopSet.mk false _ _
    rw [unheld]
  have readback : (if s.guard.reasons.lockout = false ∧ false = false then .stopped
      else if s.guard.reasons.stroke = false ∧ s.guard.reasons.lockout = false then .stopped
      else s.guard.readback) = if left.lockout then s.guard.readback else Timer.stopped := by
    show _ = if s.guard.reasons.lockout then _ else _
    cases s.guard.reasons.lockout <;> simp
  rw [← reasons, ← readback]
  rw [State.ended,
    show (s.counted ph).holdReleased.pos.lastStation = s.pos.lastStation from
      counted_lastStation ph s]
  cases ph <;> rfl

/-! ### The timers of a stroke (04 R71, R76) -/

/-- The quiet timer's expiry in CAPTURE is marked (04 R71). -/
theorem quietTimerExpiry_capture {s : State} (running : s.stroke.quiet = .running)
    (capture : s.stroke.state = .capture) :
    quietTimerExpiry s = { s with stroke := { s.stroke with quiet := .expired } } := by
  simp [quietTimerExpiry, running, capture, State.onStroke]

/-- Elsewhere it closes capture (04 R71). -/
theorem quietTimerExpiry_closes {s : State} (running : s.stroke.quiet = .running)
    (other : s.stroke.state ≠ .capture) : quietTimerExpiry s = closeCapture s := by
  simp [quietTimerExpiry, running, other]

theorem dwellExpiry_hold {s : State} (hold : s.stroke.state = .hold)
    (dwell : s.stroke.dwell.isSome = true) : dwellExpiry s = dwellExpired s :=
  if_pos ⟨hold, dwell⟩

theorem dwellExpiry_other {s : State} (none : s.stroke.state ≠ .hold ∨ s.stroke.dwell = .none) :
    dwellExpiry s = s :=
  if_neg fun ⟨hold, dwell⟩ => none.elim (absurd hold) fun e => by simp [e] at dwell

/-- An effect that leaves the link alone is all that a ready part shows. -/
theorem live_unsent {s : State} {f : State → State} (ready : s.Ready)
    (link : (f s).link = s.link) : live f s = .next (f s) := by
  rw [live_ready ready, transmit_fed (by rw [link]; exact ready.fed)]

/-- Settles O48, by what each expiry does in each state. -/
theorem timersExpireByState : Obligations.TimersExpireByState := by
  intro s ready
  have shown : s.SentAs 16 s := .of_fed ready.quiet ready.fed
  have expires (hold : s.stroke.state = .hold) (dwell : s.stroke.dwell.isSome = true) :
      exec .dwellExpiry s = .next (if s.home then s.retracted.ended else s.retracted) := by
    show live dwellExpiry s = _
    rw [live_ready ready, dwellExpiry_hold hold dwell, (shown.dwellExpired (n := 14)).transmit]
  have quiet (t : State) (e : quietTimerExpiry s = t) (link : t.link = s.link) :
      exec .quietTimerExpiry s = .next t := by
    subst e
    exact live_unsent ready link
  refine ⟨fun none => ?_, fun hold dwell away => ?_, fun hold dwell home => ?_,
    fun running other closed => ?_, fun stopped => ?_, fun running capture => ?_,
    fun running other opened => ?_⟩
  · have e := dwellExpiry_other none
    rw [show exec .dwellExpiry s = .next (dwellExpiry s) from live_unsent ready (by rw [e]), e]
  · rw [expires hold dwell, if_neg (by simp [away])]
  · rw [expires hold dwell, if_pos home]
  · refine quiet s ?_ rfl
    rw [quietTimerExpiry_closes running other, closeCapture, if_neg (by simp [closed])]
  · exact quiet s (by simp [quietTimerExpiry, stopped]) rfl
  · exact quiet _ (quietTimerExpiry_capture running capture) rfl
  · refine quiet _ ?_ rfl
    rw [quietTimerExpiry_closes running other, closeCapture, if_pos opened]
    rfl

end Sys2Proof.Machine
end

section
/-! SUPPORT. The stroke number (04 R66): only the loss of home in READY advances it, and no command
loses home twice. -/

namespace Sys2Proof.Machine

/-! ### The number before and after a start -/

/-- The stroke number is `n`, and READY is found only where `may` allows a stroke to start. -/
def State.Numbered (n : BitVec 16) (may : Prop) (s : State) : Prop :=
  s.stroke.number = n ∧ (s.stroke.state = .ready → may)

/-- The stroke number is `n`, or `n + 1` where a stroke was allowed to start; READY may be found. -/
def State.NumberedOnce (n : BitVec 16) (may : Prop) (s : State) : Prop :=
  s.Numbered n True ∨ (may ∧ s.Numbered (n + 1) True)

section operations

variable {n : BitVec 16} {may : Prop} {s : State}

theorem State.Numbered.once (h : s.Numbered n may) : s.NumberedOnce n may :=
  .inl ⟨h.1, fun _ => trivial⟩

/-- What keeps every number keeps the number of a stroke that may have started. -/
theorem State.NumberedOnce.map {f : State → State} (h : s.NumberedOnce n may)
    (keeps : ∀ m, s.Numbered m True → (f s).Numbered m True) : (f s).NumberedOnce n may :=
  h.imp (keeps n) (And.imp_right (keeps (n + 1)))

/-- A choice between two parts that keep the number keeps it. -/
theorem ite_numbered {p : Prop} [Decidable p] {a b : State} (ha : a.Numbered n may)
    (hb : b.Numbered n may) : (if p then a else b).Numbered n may := by
  split
  · exact ha
  · exact hb

theorem ite_numberedOnce {p : Prop} [Decidable p] {a b : State} (ha : a.NumberedOnce n may)
    (hb : b.NumberedOnce n may) : (if p then a else b).NumberedOnce n may := by
  split
  · exact ha
  · exact hb

end operations

/-! ### What keeps the number -/

section keeps

variable {n : BitVec 16} {may : Prop} {s : State} (h : s.Numbered n may)

include h

/-- Another state than READY may be entered. -/
theorem State.Numbered.leaves {t : State} (same : t.stroke.number = s.stroke.number)
    (unready : t.stroke.state ≠ .ready) : t.Numbered n may :=
  ⟨same.trans h.1, fun k => absurd k unready⟩

theorem closeCapture_numbered : (closeCapture s).Numbered n may := by
  rw [closeCapture_eq]; exact h

theorem endStroke_numbered : (endStroke s).Numbered n may := by
  rw [endStroke_eq]; exact h.leaves rfl nofun

theorem haltedEntry_numbered : (haltedEntry s).Numbered n may := by
  have closed : (if s.stroke.quiet == .expired then closeCapture s else s).Numbered n may :=
    ite_numbered (closeCapture_numbered h) h
  exact ite_numbered (endStroke_numbered closed) closed

theorem enterHalted_numbered (c : HaltCause) : (enterHalted c s).Numbered n may :=
  haltedEntry_numbered (s := postStroke .stroke c.code (stopWatchdog (enterState .halted s)))
    (h.leaves rfl nofun)

theorem halt_numbered (c : HaltCause) : (halt c s).Numbered n may := by
  obtain ⟨cause, count, written⟩ := withSecondary_writes c s.stroke
  unfold halt
  split
  · exact enterHalted_numbered
      (s := addReason .stroke (s.onStroke fun k => { k with outcome := .halt c })) h c
  · exact enterHalted_numbered
      (s := addReason .stroke (s.onStroke fun k => { k with outcome := .halt c })) h c
  · refine enterHalted_numbered
      (s := s.onStroke fun k => { recordSecondary c k with dwell := none }) ?_ c
    simp only [State.onStroke, recordSecondary_eq, written]
    exact h
  · simp only [State.onStroke, recordSecondary_eq, written]
    exact h
  · simp only [State.onStroke, recordSecondary_eq, written]
    exact h
  all_goals exact h

/-- A lockout latched in READY leaves it (04 R67). -/
theorem lockoutInReady_numbered (c : LockoutCause) : (lockoutInReady c s).Numbered n may :=
  ite_numbered (h.leaves rfl nofun) h

theorem lockoutCause_numbered (c : LockoutCause) (segment : Option Nat) :
    (lockoutCause c segment s).Numbered n may := by
  unfold lockoutCause
  split
  · exact h
  · exact lockoutInReady_numbered
      (s := addReason .lockout (s.onGuard fun g => { g with lockout := newLockout c segment s })) h c

theorem giveApproachCauses_numbered : (giveApproachCauses s).Numbered n may := by
  have fold : ∀ (cs : List HaltCause) (u : State), u.Numbered n may →
      (cs.foldl (fun t c => halt c t) u).Numbered n may := by
    intro cs
    induction cs with
    | nil => exact fun u hu => hu
    | cons c cs ih => exact fun u hu => ih _ (halt_numbered hu c)
  exact fold _ _ (ite_numbered (a := s.tickFree) h h)

theorem abandonCal_numbered : (abandonCal s).Numbered n may := by
  unfold abandonCal
  split
  · exact h
  · split <;> exact h

theorem homeReached_numbered : (homeReached s).Numbered n may :=
  ite_numbered (endStroke_numbered (s := removeReason .resetHold s) h) h

theorem guardChange_numbered (before : Bool) : (guardChange before s).Numbered n may := by
  rcases guardChange_cases before s with ⟨-, -, -, e⟩ | ⟨-, e⟩ <;> rw [e]
  · exact halt_numbered h _
  · exact h

/-! ### Stations -/

theorem dwellExpired_numbered : (dwellExpired s).Numbered n may := by
  have closed := closeCapture_numbered
    (s := enterState .retract (s.onStroke fun k => { k with dwell := none })) (h.leaves rfl nofun)
  exact ite_numbered (endStroke_numbered (s := postStroke _ _ _) closed) closed

theorem seatAt_numbered (station : Nat) : (seatAt station s).Numbered n may := by
  unfold seatAt
  extract_lets s1 s2 s3 s4 s5
  have h4 : s4.Numbered n may := h.leaves rfl nofun
  have h5 : s5.Numbered n may := ite_numbered (closeCapture_numbered h4) h4
  exact ite_numbered (dwellExpired_numbered h5) h5

theorem examineLatch_numbered (r : Station) : (examineLatch r s).Numbered n may :=
  ite_numbered (seatAt_numbered h _) (ite_numbered (halt_numbered h _) h)

theorem latchStation_numbered (limit : Nat) : (latchStation limit s).Numbered n may := by
  unfold latchStation
  extract_lets r s1 s2 s3 s4 s5
  have h4 : s4.Numbered n may := by
    have h3 : s3.Numbered n may := ite_numbered (ite_numbered (a := State.withDue _ _) h h) h
    exact h3
  have h5 : s5.Numbered n may := ite_numbered (closeCapture_numbered h4) h4
  exact ite_numbered (examineLatch_numbered h5 r) h5

theorem latchTest_numbered : (latchTest s).Numbered n may := by
  unfold latchTest
  split
  · exact h
  · exact ite_numbered (latchStation_numbered h _) h

theorem captureEntry_numbered : (captureEntry s).Numbered n may := by
  rw [captureEntry_eq]; exact h.leaves rfl nofun

/-! ### The link's reply side -/

theorem placeNow_numbered (w : Waiting) : (placeNow w s).Numbered n may := by
  cases w <;> exact h

theorem place_numbered (w : Waiting) : (place w s).Numbered n may :=
  ite_numbered (placeNow_numbered h w) h

theorem answer_numbered (kind : Byte) (a : Answer) : (answer kind a s).Numbered n may := by
  cases a
  case reply | counters | toolReset => exact place_numbered h _
  case snapshot | mapCommit => exact h

theorem transmit_numbered (together : Bool) : (transmit together s).Numbered n may := by
  have reply (r : Reply) (rest : List Reply) : (sendReply r rest s).Numbered n may :=
    ite_numbered h h
  unfold transmit
  split
  · exact h
  · refine ite_numbered h ?_
    cases s.link.replies with
    | nil => cases s.link.reports <;> exact h
    | cons r rs =>
      cases s.link.reports with
      | nil => exact reply r rs
      | cons p ps => exact ite_numbered (ite_numbered h (reply r rs)) (reply r rs)

theorem resetBuffer_numbered : (resetBuffer s).Numbered n may := by
  unfold resetBuffer
  cases s.link.buffer with
  | empty | snapshot | mapCommit | toolReset => exact h
  | waiting w =>
    cases w with
    | counters => exact place_numbered h _
    | made r => exact ite_numbered h (place_numbered h _)

/-- A tool reset enters DISARMED with the number kept (05 R102). -/
theorem toolReset_numbered : (toolReset s).Numbered n may := by
  unfold toolReset
  extract_lets prior atHome s1 s2 s3 s4 s5 s6 s7
  exact resetBuffer_numbered (s := s6.onLink Link.toolReset) (h.leaves rfl nofun)

/-! ### The steps that are due -/

theorem tareCompletion_numbered : (tareCompletion s).Numbered n may := by
  unfold tareCompletion
  split
  · exact h
  · split <;> exact h

theorem shuntGroupJudged_numbered : (shuntGroupJudged s).Numbered n may := by
  unfold shuntGroupJudged
  split
  · exact h
  · split
    · exact h
    · split
      · exact h
      · next rest _ => cases rest <;> exact h

theorem deferredReplyTaken_numbered : (deferredReplyTaken s).Numbered n may := by
  unfold deferredReplyTaken
  cases s.link.buffer with
  | waiting w => exact place_numbered h _
  | empty | snapshot | mapCommit | toolReset => exact h

theorem answerSnapshot_numbered : (answerSnapshot s).Numbered n may := by
  unfold answerSnapshot
  cases s.link.buffer with
  | snapshot => exact place_numbered h _
  | empty | mapCommit | toolReset | waiting => exact h

theorem takeDue_numbered (d : Due) : (takeDue d s).Numbered n may := by
  cases d with
  | settleEnd | shuntWaitEnd | bottomRail => exact h
  | tripSegment | tripTotal =>
    exact halt_numbered (s := s.onGuard fun g => { g with tripGiven := true, trip := some _ }) h _
  | overrange segment =>
    have latched := lockoutCause_numbered h .overrange (some segment)
    exact ite_numbered (halt_numbered latched _) latched
  | tareCompletion => exact tareCompletion_numbered h
  | shuntGroupJudged => exact shuntGroupJudged_numbered h
  | overtravel =>
    exact halt_numbered (lockoutCause_numbered
      (s := s.onGuard fun g => { g with overtravelGiven := true }) h _ _) _
  | deferredReply => exact deferredReplyTaken_numbered h
  | toolReset => exact toolReset_numbered h
  | snapshotReply => exact answerSnapshot_numbered h

end keeps

theorem takeThrough_numbered {n : BitVec 16} {may : Prop} {s : State} (wanted : Due → Bool)
    (ds : List Due) (h : s.Numbered n may) : (takeThrough wanted ds s).Numbered n may := by
  induction ds generalizing s with
  | nil => exact h
  | cons d ds ih =>
    have taken : (runDue d s).Numbered n may :=
      transmit_numbered (takeDue_numbered (s := s.withDue s.due.tail) h d) true
    exact ite_numbered taken (ih taken)

/-! ### The start of a stroke -/

section starts

variable {n : BitVec 16} {may : Prop} {s : State}

/-- The start of a stroke advances the number by one (04 R66). -/
theorem strokeStart_numbered (h : s.stroke.number = n) : (strokeStart s).Numbered (n + 1) True := by
  rw [strokeStart_eq]
  exact giveApproachCauses_numbered ⟨congrArg (· + 1) h, fun _ => trivial⟩

/-- The loss of home starts a stroke in READY only. -/
theorem homeLost_numberedOnce (h : s.Numbered n may) : (homeLost s).NumberedOnce n may := by
  have abandoned := abandonCal_numbered h
  obtain ⟨number, ready⟩ := id abandoned
  unfold homeLost
  extract_lets u
  split
  · next isReady => exact .inr ⟨ready isReady, strokeStart_numbered number⟩
  · exact abandoned.once

theorem homeChange_numberedOnce (before : Bool) (h : s.Numbered n may) :
    (homeChange before s).NumberedOnce n may := by
  rcases homeChange_cases before s with ⟨-, -, e⟩ | ⟨-, -, e⟩ | ⟨-, e⟩ <;> rw [e]
  · exact homeLost_numberedOnce h
  · exact (homeReached_numbered h).once
  · exact h.once

theorem countTaken_numberedOnce (before wasApproach : Bool) (h : s.Numbered n may) :
    (countTaken before wasApproach s).NumberedOnce n may := by
  have taken := homeChange_numberedOnce before h
  have entered : (captureEntry (homeChange before s)).NumberedOnce n may :=
    taken.map fun _ hm => captureEntry_numbered hm
  exact ite_numberedOnce (entered.map fun _ => latchTest_numbered)
    (taken.map fun _ => latchTest_numbered)

end starts

/-! ### The owners of the requests -/

section owners

variable {n : BitVec 16} {may : Prop} {s : State}

theorem ite_answer_numberedOnce {p : Prop} [Decidable p] {a b : State × Answer}
    (ha : a.1.NumberedOnce n may) (hb : b.1.NumberedOnce n may) :
    (if p then a else b).1.NumberedOnce n may := by
  split
  · exact ha
  · exact hb

variable (h : s.Numbered n may)

include h

theorem acceptParams_numberedOnce (p : Params) : (acceptParams p s).NumberedOnce n may := by
  unfold acceptParams
  extract_lets t u
  have ht : t.Numbered n may := h
  have hu : u.Numbered n may := ite_numbered ht ht
  exact homeChange_numberedOnce _ hu

theorem acceptLines_numberedOnce (records : List LineWire) :
    (acceptLines records s).NumberedOnce n may :=
  (homeChange_numberedOnce (s := s.onLines _) _ h).map fun _ hm => guardChange_numbered hm _

theorem closeCommit_numbered (c : Commit) : (closeCommit c s).Numbered n may := by
  unfold closeCommit
  split <;> exact h

theorem commitClosed_numbered : (commitClosed s).Numbered n may := by
  unfold commitClosed
  split
  · exact h
  · exact closeCommit_numbered h _

/-- ARM enters READY, and starts no stroke (04 R64). -/
theorem serveArm_numberedOnce : (serveArm s).1.NumberedOnce n may := by
  rcases serveArm_cases s with ⟨_, e⟩ | ⟨-, -, -, e⟩ <;> rw [e]
  · exact h.once
  · exact .inl ⟨(commitClosed_numbered h).1, fun _ => trivial⟩

theorem serveSetSense_numberedOnce (period : BitVec 16) :
    (serveSetSense period s).1.NumberedOnce n may := by
  refine ite_answer_numberedOnce h.once (ite_answer_numberedOnce h.once ?_)
  split <;> exact h.once

theorem serveSetSegment_numberedOnce (w : SegmentWire) :
    (serveSetSegment w s).1.NumberedOnce n may := by
  refine ite_answer_numberedOnce h.once (ite_answer_numberedOnce h.once ?_)
  split
  · exact h.once
  · refine ite_answer_numberedOnce h.once (State.Numbered.once ?_)
    exact ite_numbered (a := ((invalidateResults s).onAcq _).onCal _) h h

theorem serveSetStroke_numberedOnce (w : StrokeWire) :
    (serveSetStroke w s).1.NumberedOnce n may := by
  refine ite_answer_numberedOnce h.once ?_
  split
  · exact h.once
  · exact acceptParams_numberedOnce h _

theorem serveDisarm_numberedOnce : (serveDisarm s).1.NumberedOnce n may := by
  unfold serveDisarm
  cases s.stroke.state with
  | ready | complete => exact (h.leaves (t := disarm s) rfl nofun).once
  | disarmed | approach | capture | hold | halted | retract | evaluate => exact h.once

theorem serveAbort_numberedOnce : (serveAbort s).1.NumberedOnce n may := by
  unfold serveAbort
  cases s.stroke.state with
  | approach | capture | hold => exact (halt_numbered h _).once
  | ready => exact (h.leaves (t := disarm s) rfl nofun).once
  | disarmed | halted | retract | evaluate | complete => exact h.once

theorem serveMapAdd_numberedOnce (records : List PinWire) :
    (serveMapAdd records s).1.NumberedOnce n may := by
  refine ite_answer_numberedOnce h.once ?_
  split
  · exact h.once
  · exact ite_answer_numberedOnce h.once h.once

theorem serveSetClass_numberedOnce (w : ClassWire) :
    (serveSetClass w s).1.NumberedOnce n may := by
  refine ite_answer_numberedOnce h.once ?_
  split
  · exact h.once
  · exact State.Numbered.once (ite_numbered (b := (invalidateResults s).onMap _) h h)

theorem serveResultSummary_numberedOnce : (serveResultSummary s).1.NumberedOnce n may := by
  refine ite_answer_numberedOnce h.once (ite_answer_numberedOnce h.once ?_)
  split <;> exact h.once

theorem serveSetLines_numberedOnce (records : List LineWire) :
    (serveSetLines records s).1.NumberedOnce n may := by
  refine ite_answer_numberedOnce h.once (ite_answer_numberedOnce h.once ?_)
  split
  · exact h.once
  · exact acceptLines_numberedOnce h _

end owners

/-- Every owner's immediate action starts a stroke from READY only, and once. -/
theorem serve_numberedOnce {n : BitVec 16} {may : Prop} (r : Request) {s : State}
    (h : s.Numbered n may) : (serve r s).1.NumberedOnce n may := by
  have same : s.NumberedOnce n may := h.once
  cases r with
  | ping | status | countersRead | toolReset | getStroke | lockoutRead | readLines | snapshot
  | mapBegin | writeLines => exact same
  | getSegment | mapRead | getClass | profileRead => exact ite_answer_numberedOnce same same
  | setLink | mapCommit =>
    exact ite_answer_numberedOnce same (ite_answer_numberedOnce same same)
  | tare | resultRead =>
    exact ite_answer_numberedOnce same
      (ite_answer_numberedOnce same (ite_answer_numberedOnce same same))
  | shuntCheck | lockoutClear =>
    exact ite_answer_numberedOnce same (ite_answer_numberedOnce same
      (ite_answer_numberedOnce same (ite_answer_numberedOnce same same)))
  | setSense period => exact serveSetSense_numberedOnce h period
  | setSegment w => exact serveSetSegment_numberedOnce h w
  | setStroke w => exact serveSetStroke_numberedOnce h w
  | arm => exact serveArm_numberedOnce h
  | disarm => exact serveDisarm_numberedOnce h
  | abort => exact serveAbort_numberedOnce h
  | mapAdd records => exact serveMapAdd_numberedOnce h records
  | setClass w => exact serveSetClass_numberedOnce h w
  | resultSummary => exact serveResultSummary_numberedOnce h
  | setLines records => exact serveSetLines_numberedOnce h records

/-! ### The events -/

section events

variable {n : BitVec 16} {may : Prop} {s : State} (h : s.Numbered n may)

include h

theorem offer_numberedOnce (kind : Byte) {serve : State → State × Answer}
    (served : ∀ u : State, u.Numbered n may → (serve u).1.NumberedOnce n may) :
    (offer kind serve s).NumberedOnce n may := by
  unfold offer
  extract_lets u
  have hu : u.Numbered n may := h
  cases u.link.buffer with
  | empty => exact (served u hu).map fun _ hm => answer_numbered hm _ _
  | snapshot | mapCommit | toolReset | waiting => exact hu.once

theorem frameComplete_numberedOnce (length : Byte) (taken : List Byte) (received : BitVec 16) :
    (frameComplete length taken received s).NumberedOnce n may := by
  refine ite_numberedOnce ?_ h.once
  unfold offerFrame
  split
  · exact h.once
  · refine offer_numberedOnce (s := setReceiver .seek s) h _ fun u hu => ?_
    unfold serveFrame
    split
    · exact serve_numberedOnce _ hu
    · exact hu.once
    · exact hu.once

theorem takeByte_numberedOnce (b : Byte) : (takeByte b s).NumberedOnce n may := by
  unfold takeByte
  cases s.link.receiver with
  | seek | header | body => exact ite_numberedOnce h.once h.once
  | check length taken first =>
    cases first with
    | none => exact h.once
    | some a => exact frameComplete_numberedOnce h _ _ _
  | discard => exact h.once

theorem frameReceived_numberedOnce (check : Byte) : (frameReceived check s).NumberedOnce n may := by
  unfold frameReceived
  cases s.link.receiver with
  | check length taken first =>
    cases first with
    | none => exact h.once
    | some a => exact frameComplete_numberedOnce h _ _ _
  | seek | header | body | discard => exact h.once

theorem headerLengthError_numbered (b : Byte) : (headerLengthError b s).Numbered n may := by
  unfold headerLengthError
  cases s.link.receiver with
  | header => exact ite_numbered h h
  | seek | body | check | discard => exact h

theorem frameTimeout_numbered : (frameTimeout s).Numbered n may := by
  unfold frameTimeout
  split <;> exact h

theorem discardGapEnd_numbered : (discardGapEnd s).Numbered n may := by
  unfold discardGapEnd
  split <;> exact h

theorem frameTransmitted_numbered : (frameTransmitted s).Numbered n may := by
  unfold frameTransmitted
  split
  · exact h
  · exact ite_numbered h (transmit_numbered (s := s.onLink fun l => { l with sending := none }) h _)

theorem watchdogExpiry_numbered : (watchdogExpiry s).Numbered n may := by
  unfold watchdogExpiry
  split
  · exact h
  · exact ite_numbered h (halt_numbered (s := stopWatchdog s) h _)

theorem commitEnd_numbered : (commitEnd s).Numbered n may := by
  unfold commitEnd
  split
  · exact h
  · have closed := closeCommit_numbered h
    exact ite_numbered (ite_numbered (place_numbered (closed _) _) (closed _)) h

theorem encoderFaultTaken_numberedOnce (e : EncoderEvent) :
    (encoderFaultTaken e s).NumberedOnce n may := by
  unfold encoderFaultTaken
  extract_lets before k u v w
  have halted : w.Numbered n may := ite_numbered (halt_numbered (s := v) h _) h
  exact homeChange_numberedOnce _ halted

theorem encoderFault_numberedOnce (t : Transition) : (encoderFault t s).NumberedOnce n may := by
  cases t with
  | both => exact encoderFaultTaken_numberedOnce (s := (s.onPos _).onPos (Pos.flip .b)) h _
  | one ph =>
    exact ite_numberedOnce (encoderFaultTaken_numberedOnce (s := s.onPos _) h _) h.once

theorem encoderCount_numberedOnce (ph : Phase) : (encoderCount ph s).NumberedOnce n may :=
  ite_numberedOnce (encoderFaultTaken_numberedOnce (s := s.onPos _) h _)
    (countTaken_numberedOnce (s := s.onPos _) _ _ h)

theorem referencePulse_numberedOnce : (referencePulse s).NumberedOnce n may := by
  unfold referencePulse
  extract_lets before t u
  have hu : u.Numbered n may := ite_numbered (a := post _ t) h h
  exact homeChange_numberedOnce _ hu

theorem dwellExpiry_numbered : (dwellExpiry s).Numbered n may :=
  ite_numbered (dwellExpired_numbered h) h

theorem quietTimerExpiry_numbered : (quietTimerExpiry s).Numbered n may :=
  ite_numbered (ite_numbered h (closeCapture_numbered h)) h

theorem evaluationCompletion_numbered : (evaluationCompletion s).Numbered n may := by
  unfold evaluationCompletion
  split
  · exact h
  · exact h.leaves rfl nofun

theorem stopNSenseChange_numbered (level : Level) : (stopNSenseChange level s).Numbered n may := by
  refine ite_numbered h ?_
  cases level with
  | low => exact ite_numbered (halt_numbered (s := s.onGuard _) h _) h
  | high => exact h

theorem readbackTimerExpiry_numbered : (readbackTimerExpiry s).Numbered n may :=
  ite_numbered (halt_numbered (lockoutCause_numbered
    (s := s.onGuard fun g => { g with readback := .expired }) h _ _) _) h

theorem lineFilterChange_numberedOnce (line : Nat) (level : Level) :
    (lineFilterChange line level s).NumberedOnce n may :=
  ite_numberedOnce h.once ((homeChange_numberedOnce (s := s.onLines _) _ h).map
    fun _ hm => guardChange_numbered hm _)

theorem publishRound_numbered (set : SampleSet) : (publishRound set s).Numbered n may := by
  unfold publishRound
  extract_lets before s1 examines s2 s3 bottoms overs trips t
  have h2 : s2.Numbered n may := ite_numbered (a := s1.onGuard _) h h
  exact ite_numbered (a := t.tickFree) h2 h2

theorem closeSnapshot_numbered : (closeSnapshot s).Numbered n may := by
  rcases closeSnapshot_cases s with ⟨-, e⟩ | ⟨-, e | e⟩ <;> rw [e]
  · exact answerSnapshot_numbered h
  · exact answerSnapshot_numbered h
  · exact h

theorem roundClose_numbered (bridges : List Int) : (roundClose bridges s).Numbered n may := by
  have settled : (settleRound (sampleSet s.acq bridges) s).Numbered n may := h
  exact closeSnapshot_numbered (ite_numbered settled (publishRound_numbered h _))

end events

/-! ### Every command -/

section commands

variable {n : BitVec 16} {may : Prop} {s t : State}

/-- A command whose own effect starts a stroke from READY only, and once, is such a command: the due
steps before it start none. -/
theorem live_numberedOnce {f : State → State}
    (effect : ∀ u : State, u.Numbered n may → (f u).NumberedOnce n may) (h : s.Numbered n may)
    (e : live f s = .next t) : t.NumberedOnce n may := by
  cases e
  exact ite_numberedOnce h.once
    ((effect _ (takeThrough_numbered _ _ h)).map fun _ hm => transmit_numbered hm true)

/-- A command whose own effect keeps the number starts no stroke. -/
theorem live_numbered {f : State → State}
    (effect : ∀ u : State, u.Numbered n may → (f u).Numbered n may) (h : s.Numbered n may)
    (e : live f s = .next t) : t.NumberedOnce n may :=
  live_numberedOnce (fun u hu => (effect u hu).once) h e

theorem liveDue_numbered {wanted : Due → Bool} (h : s.Numbered n may)
    (e : liveDue wanted s = .next t) : t.NumberedOnce n may := by
  cases e
  exact ite_numberedOnce h.once (takeThrough_numbered _ _ h).once

theorem request_numberedOnce (r : Request) (h : s.Numbered n may)
    (e : request r (serve r) s = .next t) : t.NumberedOnce n may :=
  live_numberedOnce (fun _ hu => offer_numberedOnce hu _ fun _ => serve_numberedOnce r) h e

end commands

/-- Every command but power-on reset starts a stroke from READY only, and once. -/
theorem exec_numberedOnce {n : BitVec 16} {may : Prop} (c : Instr) {s t : State} (h : s.Numbered n may)
    (e : exec c s = .next t) (unreset : c ≠ .powerOnReset)
    (unreleased : ∀ w, c ≠ .powerOnResetRelease w) : t.NumberedOnce n may := by
  cases c with
  | ping | status | countersRead | setLink | toolReset | setSense | setSegment | getSegment
  | snapshot | tare | shuntCheck | setStroke | getStroke | arm | disarm | abort | lockoutRead
  | lockoutClear | mapBegin | mapAdd | mapCommit | mapRead | setClass | getClass | profileRead
  | resultRead | resultSummary | setLines | writeLines | readLines =>
    exact request_numberedOnce _ h e
  | toolResetActs | deferredReplyPlaced | settleEnd | tripSegment | tripTotal | overrangeEvent
  | bottomRailPair | tareCompletion | shuntWaitEnd | shuntGroupJudged | overtravel =>
    exact liveDue_numbered h e
  | mapCommitCompletion => exact live_numbered (fun _ => commitEnd_numbered) h e
  | frameReceived check =>
    exact live_numberedOnce (fun _ hu => frameReceived_numberedOnce hu check) h e
  | headerLengthError b => exact live_numbered (fun _ hu => headerLengthError_numbered hu b) h e
  | frameTimeout => exact live_numbered (fun _ => frameTimeout_numbered) h e
  | discardGapEnd => exact live_numbered (fun _ => discardGapEnd_numbered) h e
  | frameTransmitted => exact live_numbered (fun _ => frameTransmitted_numbered) h e
  | watchdogExpiry => exact live_numbered (fun _ => watchdogExpiry_numbered) h e
  | linkReset => exact live_numbered (f := linkReset) (fun _ hu => hu) h e
  | resetNToolReset us =>
    exact live_numbered (f := resetPulse us)
      (fun _ hu => ite_numbered (toolReset_numbered hu) hu) h e
  | powerOnReset => exact absurd rfl unreset
  | powerOnResetRelease w => exact absurd rfl (unreleased w)
  | conversionRoundClose bridges =>
    exact live_numbered (fun _ hu => roundClose_numbered hu bridges) h e
  | encoderCount ph => exact live_numberedOnce (fun _ hu => encoderCount_numberedOnce hu ph) h e
  | encoderFault tr => exact live_numberedOnce (fun _ hu => encoderFault_numberedOnce hu tr) h e
  | referencePulse => exact live_numberedOnce (fun _ => referencePulse_numberedOnce) h e
  | dwellExpiry => exact live_numbered (fun _ => dwellExpiry_numbered) h e
  | quietTimerExpiry => exact live_numbered (fun _ => quietTimerExpiry_numbered) h e
  | evaluationCompletion => exact live_numbered (fun _ => evaluationCompletion_numbered) h e
  | stopNSenseChange level =>
    exact live_numbered (fun _ hu => stopNSenseChange_numbered hu level) h e
  | readbackTimerExpiry => exact live_numbered (fun _ => readbackTimerExpiry_numbered) h e
  | lineFilterChange line level =>
    exact live_numberedOnce (fun _ hu => lineFilterChange_numberedOnce hu line.val level) h e
  | byteTaken b => exact live_numberedOnce (fun _ hu => takeByte_numberedOnce hu b) h e

/-- Settles O59: from the part's own number and state, one start is the most a command brings. -/
theorem strokeNumberChangesOnlyFromReady : Obligations.StrokeNumberChangesOnlyFromReady := by
  intro c s t e unreset unreleased
  have numbered : s.Numbered s.stroke.number (s.stroke.state = .ready) := ⟨rfl, id⟩
  rcases exec_numberedOnce c numbered e unreset unreleased with ⟨kept, -⟩ | ⟨ready, advanced, -⟩
  · exact .inl kept
  · exact .inr ⟨advanced, ready⟩

end Sys2Proof.Machine
end

section
/-! SUPPORT. The ties of the stroke state, block by block; every shared operation, every owner of a
request and every event keeps them, and so does every step. -/

namespace Sys2Proof.Machine

/-! ### The ties as one conjunction

Definitions that unfold to the fields they read: for an operation that writes none of them, the ties
before it and after it are one proposition. -/

/-- The guard unit's ties to the stroke state `k` (05 R83, R85, 04 R67). -/
def Guard.TiedTo (k : StrokeState) (g : Guard) : Prop :=
  g.reasons.stroke = k.stopped ∧ g.reasons.lockout = g.lockout.latched ∧
    (g.readback = .stopped ↔ g.reasons.isEmpty = true ∨ g.sensed = .low) ∧
    (k = .ready → g.lockout.latched = false)

/-- The verdict engine's ties (07 R122). -/
def Engine.TiedTo (k : StrokeState) (e : Engine) : Prop :=
  (e.run.isSome = true ↔ k = .evaluate) ∧ (e.run = none → e.work = WorkTable.empty)

/-- The calibration unit's ties, but for home (02 R23, R26). -/
def Cal.TiedTo (k : StrokeState) (c : Cal) : Prop :=
  (c.run.isSome = true → k.idle = true) ∧ (c.run = none → c.switches = switchesOpen)

/-- The ties of the dwell timer and the watchdog (04 R76, 10 R187). -/
def State.TimersTied (s : State) : Prop :=
  (s.stroke.dwell.isSome = true ↔ s.stroke.state = .hold) ∧
    (s.link.watchdog.isSome = true → s.stroke.state.descending = true)

/-- The ties of capture, the profile store and the copies, wherever capture may be open (03 R48, R49,
04 R71, 08 R148). -/
def State.CaptureTied (s : State) : Prop :=
  (s.stroke.captureOpen = true → s.stroke.state.mayCapture = true) ∧
    (s.profile.condition = .capturing ↔ s.stroke.captureOpen = true) ∧
    (s.stroke.quiet = .stopped ↔ s.stroke.captureOpen = false) ∧
    (s.stroke.captureOpen = true → s.pos.copies = some s.stroke.params.copies) ∧
    s.profile.records.map Station.index = List.range s.pos.high

/-- The ties that do not speak of home. -/
def State.Tied (s : State) : Prop :=
  s.guard.TiedTo s.stroke.state ∧ s.engine.TiedTo s.stroke.state ∧ s.cal.TiedTo s.stroke.state ∧
    s.TimersTied ∧ s.CaptureTied

/-- The ties to home, where home is now `home` and an event of home from `before` is still to be
taken: a return that is not home yet, or not seen to be, may stand (04 R64, R77, 02 R37). -/
def State.HomeTied (before home : Bool) (s : State) : Prop :=
  s.home = home ∧ (s.stroke.state = .ready → before = true) ∧
    (s.stroke.state.returning = true → before = false ∨ home = false) ∧
    (s.cal.run.isSome = true → before = true)

/-- All ties, with an event of home from `before` still to be taken. -/
def State.TiedAt (before home : Bool) (s : State) : Prop :=
  s.Tied ∧ s.HomeTied before home ∧ (s.stroke.state = .capture → s.stroke.captureOpen = true)

/-- All ties, with no event of home to be taken. -/
def State.Kept (s : State) : Prop := s.TiedAt s.home s.home

/-- The block-by-block ties are those of the claims. -/
theorem strokeTies_iff_kept (s : State) : s.StrokeTies ↔ s.Kept := by
  constructor
  · intro h
    exact ⟨⟨⟨h.strokeReason, h.lockoutReason, h.readback, fun k => (h.ready k).2⟩,
      ⟨h.engine, h.work⟩, ⟨fun c => (h.calibration c).2, h.switches⟩, ⟨h.dwell, h.watchdog⟩,
      ⟨h.mayCapture, h.condition, h.quiet, h.copies, h.stations⟩⟩,
      ⟨rfl, fun k => (h.ready k).1, fun k => .inl (h.returning k), fun c => (h.calibration c).1⟩,
      h.capture⟩
  · rintro ⟨⟨⟨strokeReason, lockoutReason, readback, cleared⟩, ⟨engine, work⟩, ⟨idle, switches⟩,
      ⟨dwell, watchdog⟩, mayCapture, condition, quiet, copies, stations⟩,
      ⟨-, ready, returning, calibration⟩, capture⟩
    exact { strokeReason, lockoutReason, readback, engine, work, switches, dwell, watchdog,
            mayCapture, condition, quiet, copies, stations, capture,
            ready := fun k => ⟨ready k, cleared k⟩
            returning := fun k => (returning k).elim id id
            calibration := fun c => ⟨calibration c, idle c⟩ }

/-! ### Entering another stroke state -/

section enter

variable {k k' : StrokeState}

/-- The guard unit's ties read only whether the state is stopped, and READY. -/
theorem Guard.TiedTo.enter {g : Guard} (h : g.TiedTo k) (same : k.stopped = k'.stopped)
    (unready : k' ≠ .ready) : g.TiedTo k' := by
  obtain ⟨stroke, lockout, readback, -⟩ := h
  exact ⟨stroke.trans same, lockout, readback, fun e => absurd e unready⟩

/-- The engine's ties read only whether the state is EVALUATE. -/
theorem Engine.TiedTo.enter {e : Engine} (h : e.TiedTo k) (hk : k ≠ .evaluate)
    (hk' : k' ≠ .evaluate) : e.TiedTo k' := by
  obtain ⟨runs, work⟩ := h
  exact ⟨iff_of_false (fun r => hk (runs.mp r)) hk', work⟩

/-- Outside DISARMED and COMPLETE no operation runs. -/
theorem Cal.TiedTo.stopped {c : Cal} (h : c.TiedTo k) (hk : k.idle = false) : c.run = none := by
  obtain ⟨idle, -⟩ := h
  cases hr : c.run with
  | none => rfl
  | some r => simp [hr, hk] at idle

/-- The calibration unit's ties hold in every state while no operation runs. -/
theorem Cal.TiedTo.enter {c : Cal} (h : c.TiedTo k) (hk : k.idle = false) : c.TiedTo k' := by
  have none := h.stopped hk
  obtain ⟨-, switches⟩ := h
  exact ⟨by simp [none], switches⟩

end enter

/-! ### The stop-reason set (05 R83, R85) -/

/-- The readback timer after a reason is added is stopped exactly while the line reads low. -/
theorem readback_add {g : Guard} (r : StopReason)
    (h : g.readback = .stopped ↔ g.reasons.isEmpty = true ∨ g.sensed = .low) :
    (if g.reasons.isEmpty = true ∧ g.sensed = .high then .running else g.readback) =
        Timer.stopped ↔ (g.reasons.add r).isEmpty = true ∨ g.sensed = .low := by
  have held : (g.reasons.add r).isEmpty = false := by cases r <;> simp [StopSet.add, StopSet.isEmpty]
  rw [held]
  cases hs : g.sensed <;> cases he : g.reasons.isEmpty <;> simp_all

/-- The readback timer after a reason is removed stops when the set is left empty. -/
theorem readback_remove {g : Guard} (r : StopReason)
    (h : g.readback = .stopped ↔ g.reasons.isEmpty = true ∨ g.sensed = .low) :
    (if (g.reasons.remove r).isEmpty = true then .stopped else g.readback) = Timer.stopped ↔
      (g.reasons.remove r).isEmpty = true ∨ g.sensed = .low := by
  cases left : (g.reasons.remove r).isEmpty with
  | true => simp
  | false =>
    have held : g.reasons.isEmpty = false := by
      cases r <;> simp_all [StopSet.remove, StopSet.isEmpty]
    simpa [held] using h

/-- STROKE is added where a stopped state is entered. -/
theorem Guard.TiedTo.addStroke {k k' : StrokeState} {g : Guard} (h : g.TiedTo k)
    (hk' : k'.stopped = true) (counts : Bool) :
    ({ g with
      reasons := g.reasons.add .stroke
      readback := if g.reasons.isEmpty = true ∧ g.sensed = .high then .running else g.readback
      counting := counts } : Guard).TiedTo k' := by
  obtain ⟨-, lockout, readback, -⟩ := h
  refine ⟨hk'.symm, lockout, readback_add .stroke readback, ?_⟩
  rintro rfl
  simp [StrokeState.stopped] at hk'

/-- STROKE is removed where EVALUATE is entered. -/
theorem Guard.TiedTo.removeStroke {k : StrokeState} {g : Guard} (h : g.TiedTo k) :
    ({ g with
      reasons := g.reasons.remove .stroke
      readback := if (g.reasons.remove .stroke).isEmpty = true then .stopped
        else g.readback } : Guard).TiedTo .evaluate := by
  obtain ⟨-, lockout, readback, -⟩ := h
  exact ⟨rfl, lockout, readback_remove .stroke readback, nofun⟩

/-- A reset hold is no tie of the stroke state's. -/
theorem Guard.TiedTo.removeHold {k : StrokeState} {g : Guard} (h : g.TiedTo k) :
    ({ g with
      reasons := g.reasons.remove .resetHold
      readback := if (g.reasons.remove .resetHold).isEmpty = true then .stopped
        else g.readback } : Guard).TiedTo k := by
  obtain ⟨stroke, lockout, readback, cleared⟩ := h
  exact ⟨stroke, lockout, readback_remove .resetHold readback, cleared⟩

/-- A lockout that is latched adds its reason, outside READY. -/
theorem Guard.TiedTo.addLockout {k k' : StrokeState} {g : Guard} (h : g.TiedTo k)
    (same : k.stopped = k'.stopped) (unready : k' ≠ .ready) {record : Lockout}
    (latched : record.latched = true) (counts : Bool) :
    ({ g with
      lockout := record
      reasons := g.reasons.add .lockout
      readback := if g.reasons.isEmpty = true ∧ g.sensed = .high then .running else g.readback
      counting := counts } : Guard).TiedTo k' := by
  obtain ⟨stroke, -, readback, -⟩ := h
  exact ⟨stroke.trans same, latched.symm, readback_add .lockout readback,
    fun e => absurd e unready⟩

/-- A lockout that is cleared removes its reason. -/
theorem Guard.TiedTo.removeLockout {k : StrokeState} {g : Guard} (h : g.TiedTo k)
    {record : Lockout} (cleared : record.latched = false) :
    ({ g with
      lockout := record
      reasons := g.reasons.remove .lockout
      readback := if (g.reasons.remove .lockout).isEmpty = true then .stopped
        else g.readback } : Guard).TiedTo k := by
  obtain ⟨stroke, -, readback, -⟩ := h
  exact ⟨stroke, cleared.symm, readback_remove .lockout readback, fun _ => cleared⟩

/-! ### Reports and capture -/

section operations

variable {s : State} {before home : Bool}

theorem post_tied (r : Report) (h : s.Tied) : (post r s).Tied := by
  obtain ⟨guard, engine, cal, ⟨dwell, watchdog⟩, capture⟩ := h
  refine ⟨guard, engine, cal, ⟨dwell, ?_⟩, capture⟩
  rw [show (post r s).link = s.link.post r from rfl, Link.post_frame]
  exact watchdog

theorem post_tiedAt (r : Report) (h : s.TiedAt before home) : (post r s).TiedAt before home := by
  obtain ⟨tied, rest⟩ := h
  exact ⟨post_tied r tied, rest⟩

/-- The close of capture leaves the profile condition and the quiet timer tied to a closed capture. -/
theorem closed_capture (h : s.CaptureTied) :
    ((if s.stroke.captureOpen then .closed else s.profile.condition) = ProfileCondition.capturing ↔
      false = true) ∧
    ((if s.stroke.captureOpen then .stopped else s.stroke.quiet) = Timer.stopped ↔
      false = false) := by
  obtain ⟨-, condition, quiet, -⟩ := h
  cases ho : s.stroke.captureOpen <;> simp_all

theorem closeCapture_tied (h : s.Tied) : (closeCapture s).Tied := by
  obtain ⟨guard, engine, cal, timers, capture⟩ := h
  obtain ⟨condition, quiet⟩ := closed_capture capture
  obtain ⟨-, -, -, -, stations⟩ := capture
  rw [closeCapture_eq]
  exact ⟨guard, engine, cal, timers, nofun, condition, quiet, nofun, stations⟩

/-- A choice between two parts that keep the ties keeps them. -/
theorem ite_tiedAt {p : Prop} [Decidable p] {a b : State} (ha : a.TiedAt before home)
    (hb : b.TiedAt before home) : (if p then a else b).TiedAt before home := by
  split
  · exact ha
  · exact hb

theorem ite_kept {p : Prop} [Decidable p] {a b : State} (ha : a.Kept) (hb : b.Kept) :
    (if p then a else b).Kept := by
  split
  · exact ha
  · exact hb

theorem State.TiedAt.kept (h : s.TiedAt home home) : s.Kept := by
  obtain ⟨tied, ⟨rfl, homed⟩, capture⟩ := h
  exact ⟨tied, ⟨rfl, homed⟩, capture⟩

/-! ### The end of the stroke and halt causes (04 R72 to R74, R77) -/

theorem idle_of_returning {k : StrokeState} (h : k.returning = true) : k.idle = false := by
  cases k <;> simp_all [StrokeState.returning, StrokeState.idle]

/-- A return ends in EVALUATE, where home ties nothing. -/
theorem endStroke_tiedAt (h : s.Tied) (returns : s.stroke.state.returning = true)
    (atHome : s.home = home) : (endStroke s).TiedAt before home := by
  obtain ⟨guard, -, cal, ⟨dwell, watchdog⟩, capture⟩ := h
  obtain ⟨condition, quiet⟩ := closed_capture capture
  obtain ⟨-, -, -, -, stations⟩ := capture
  have idle := cal.stopped (idle_of_returning returns)
  have stopped : s.stroke.dwell.isSome = true ↔ StrokeState.evaluate = .hold := by
    refine iff_of_false (fun d => ?_) nofun
    rw [dwell.mp d] at returns
    cases returns
  have quieted : s.link.watchdog.isSome = true → StrokeState.evaluate.descending = true := by
    intro w
    have descends := watchdog w
    cases hk : s.stroke.state <;> simp_all [StrokeState.returning, StrokeState.descending]
  rw [endStroke_eq]
  refine post_tiedAt _ ⟨⟨guard.removeStroke, ⟨iff_of_true rfl rfl, nofun⟩,
    cal.enter (idle_of_returning returns), ⟨stopped, quieted⟩, nofun, condition, quiet, nofun,
    stations⟩, ⟨atHome, nofun, nofun, fun run => ?_⟩, nofun⟩
  have none : s.cal.run.isSome = true := run
  simp [idle] at none

/-- What follows the entry into HALTED: the stroke stands there, or ends with the ram home. -/
theorem haltedEntry_tiedAt (h : s.Tied) (halted : s.stroke.state = .halted)
    (atHome : s.home = home) : (haltedEntry s).TiedAt before home := by
  unfold haltedEntry
  extract_lets u
  have hu : u.Tied ∧ u.stroke.state = .halted ∧ u.home = home := by
    unfold u
    split
    · exact ⟨closeCapture_tied h, by rw [closeCapture_eq]; exact halted,
        by rw [closeCapture_eq]; exact atHome⟩
    · exact ⟨h, halted, atHome⟩
  obtain ⟨tied, state, rfl⟩ := hu
  split
  · exact endStroke_tiedAt tied (by rw [state]; rfl) rfl
  · next away =>
    have idle := tied.2.2.1.stopped (by rw [state]; rfl)
    exact ⟨tied, ⟨rfl, by simp [state], fun _ => .inr (by simpa using away), by simp [idle]⟩,
      by simp [state]⟩

/-- HALTED is entered where a part in HALTED with its watchdog stopped has the ties. -/
theorem enterHalted_tiedAt (c : HaltCause) (h : (stopWatchdog (enterState .halted s)).Tied)
    (atHome : s.home = home) : (enterHalted c s).TiedAt before home :=
  haltedEntry_tiedAt (post_tied _ h) rfl atHome

theorem descending_facts {k : StrokeState} (h : k.descending = true) :
    k.idle = false ∧ k ≠ .evaluate ∧ k ≠ .hold ∧ k ≠ .ready ∧ k.returning = false ∧
      k.stopped = false := by
  cases k <;> simp_all [StrokeState.descending, StrokeState.idle, StrokeState.returning,
    StrokeState.stopped]

/-- A halt cause in a descent stops the stroke; a latch at the station limit may have closed
capture. -/
theorem halt_tiedAt_of_descending (c : HaltCause) (h : s.Tied) (atHome : s.home = home)
    (descends : s.stroke.state.descending = true) : (halt c s).TiedAt before home := by
  obtain ⟨guard, engine, cal, ⟨dwell, -⟩, -, capture⟩ := h
  obtain ⟨busy, unjudged, unheld, -⟩ := descending_facts descends
  rw [halt_eq_of_descending c descends]
  exact enterHalted_tiedAt (s := s.outcomeBy c) c ⟨guard.addStroke rfl _,
    engine.enter unjudged nofun, cal.enter busy,
    ⟨iff_of_false (fun d => unheld (dwell.mp d)) nofun, nofun⟩, fun _ => rfl, capture⟩ atHome

/-- A halt cause in HOLD cuts the dwell (04 R73). -/
theorem halt_tiedAt_of_hold (c : HaltCause) (h : s.Tied) (atHome : s.home = home)
    (hold : s.stroke.state = .hold) : (halt c s).TiedAt before home := by
  obtain ⟨guard, engine, cal, -, -, capture⟩ := h
  obtain ⟨cause, count, written⟩ := withSecondary_writes c s.stroke
  have e : halt c s = enterHalted c { s with
      stroke := { s.stroke with secondary := cause, secondaryCount := count, dwell := none } } := by
    simp [halt, hold, State.onStroke, recordSecondary_eq, written]
  rw [hold] at guard engine cal
  rw [e]
  exact enterHalted_tiedAt c ⟨guard.enter rfl nofun, engine.enter nofun nofun, cal.enter rfl,
    ⟨iff_of_false nofun nofun, nofun⟩, fun _ => rfl, capture⟩ atHome

/-- A halt cause keeps the ties, also where an event of home has still to be taken, and where a latch
at the station limit has closed capture (04 R72 to R74). -/
theorem halt_tiedAt (c : HaltCause) (h : s.Tied) (homed : s.HomeTied before home) :
    (halt c s).TiedAt before home := by
  cases hk : s.stroke.state with
  | approach | capture => exact halt_tiedAt_of_descending c h homed.1 (by rw [hk]; rfl)
  | hold => exact halt_tiedAt_of_hold c h homed.1 hk
  | halted | retract =>
    obtain ⟨cause, count, written⟩ := withSecondary_writes c s.stroke
    rw [halt_returning (by rw [hk]; rfl), State.secondaryBy, written]
    exact ⟨h, homed, by simp [hk]⟩
  | disarmed | ready | evaluate | complete =>
    rw [halt_outside (by rw [hk]; rfl)]
    exact ⟨h, homed, by simp [hk]⟩

/-- READY and COMPLETE are left for DISARMED (04 R65, R67, R75), a lockout latched or not. -/
theorem disarm_tiedAt {g : Guard} (h : s.TiedAt before home) (guard : g.TiedTo .disarmed)
    (idle : s.stroke.state = .ready ∨ s.stroke.state = .complete) :
    (disarm { s with guard := g }).TiedAt before home := by
  obtain ⟨⟨-, engine, ⟨-, switches⟩, ⟨dwell, -⟩, mayCapture, capture⟩, ⟨atHome, -, -, run⟩, -⟩ := h
  have closed : s.stroke.captureOpen = true → StrokeState.disarmed.mayCapture = true := by
    intro o
    have may := mayCapture o
    rcases idle with k | k <;> rw [k] at may <;> cases may
  have unheld : s.stroke.dwell.isSome = true ↔ StrokeState.disarmed = .hold := by
    rcases idle with k | k <;> simpa [k] using dwell
  have unjudged : s.stroke.state ≠ .evaluate := by
    rcases idle with k | k <;> rw [k] <;> nofun
  exact ⟨⟨guard, engine.enter unjudged nofun, ⟨fun _ => rfl, switches⟩, ⟨unheld, nofun⟩, closed,
    capture⟩, ⟨atHome, nofun, nofun, run⟩, nofun⟩

/-! ### Lockouts (05 R95 to R97, 04 R67) -/

/-- A lockout cause latches or counts a repeat; latched in READY it disarms the head. -/
theorem lockoutCause_tiedAt (c : LockoutCause) (n : Option Nat) (h : s.TiedAt before home) :
    (lockoutCause c n s).TiedAt before home := by
  cases hl : s.guard.lockout.latched with
  | true => rw [lockoutCause_latched hl]; exact h
  | false =>
    obtain ⟨⟨guard, rest⟩, homed⟩ := h
    obtain ⟨g, added, tied⟩ : ∃ g : Guard,
        addReason .lockout { s with guard := { s.guard with lockout := s.newLockout c n } } =
          { s with guard := g } ∧
        ∀ k', s.stroke.state.stopped = k'.stopped → k' ≠ .ready → g.TiedTo k' :=
      ⟨_, addReason_eq _ _, fun _ same unready => guard.addLockout same unready rfl _⟩
    rw [lockoutCause_cleared hl, added]
    refine post_tiedAt _ ?_
    by_cases hk : s.stroke.state = .ready
    · have e : lockoutInReady c { s with guard := g } =
          postStroke .info c.halt.code (disarm { s with guard := g }) := if_pos hk
      rw [e]
      exact post_tiedAt _ (disarm_tiedAt ⟨⟨guard, rest⟩, homed⟩ (tied _ (by rw [hk]; rfl) nofun)
        (.inl hk))
    · rw [lockoutInReady_other (s := { s with guard := g }) hk]
      exact ⟨⟨tied _ rfl hk, rest⟩, homed⟩

/-! ### The start of the stroke (04 R66) -/

/-- The halt causes given at the entry into APPROACH keep the ties, whatever their order. -/
theorem giveApproachCauses_tiedAt (h : s.TiedAt before home) :
    (giveApproachCauses s).TiedAt before home := by
  have fold : ∀ (cs : List HaltCause) (u : State), u.TiedAt before home →
      (cs.foldl (fun t c => halt c t) u).TiedAt before home := by
    intro cs
    induction cs with
    | nil => exact fun u hu => hu
    | cons c cs ih => exact fun u hu => ih _ (halt_tiedAt c hu.1 hu.2.1)
  exact fold _ _ (ite_tiedAt (a := s.tickFree) h h)

/-- A stroke that starts from READY stands in APPROACH, or where its causes bring it. -/
theorem strokeStart_tiedAt (h : s.Tied) (ready : s.stroke.state = .ready) (atHome : s.home = home) :
    (strokeStart s).TiedAt before home := by
  obtain ⟨guard, engine, cal, ⟨dwell, -⟩, mayCapture, capture⟩ := h
  rw [ready] at guard engine cal dwell mayCapture
  have none : s.cal.run.isSome = true → before = true := by simp [cal.stopped rfl]
  have approached : s.approached.TiedAt before home :=
    post_tiedAt _ ⟨⟨guard.enter (k' := .approach) rfl nofun, engine.enter nofun nofun, cal.enter rfl,
      ⟨iff_of_false (fun d => nomatch dwell.mp d) nofun, fun _ => rfl⟩,
      fun o => (nomatch mayCapture o), capture⟩, ⟨atHome, nofun, nofun, none⟩, nofun⟩
  rw [strokeStart_eq]
  exact giveApproachCauses_tiedAt approached

/-! ### Home and GUARD (04 R57, R58, 05 R94) -/

/-- An abandoned operation leaves none, with every switch open (02 R23, R37). -/
theorem abandonCal_tied (h : s.Tied) :
    (abandonCal s).Tied ∧ (abandonCal s).cal.run = none ∧ (abandonCal s).home = s.home := by
  cases hr : s.cal.run with
  | none => rw [abandonCal_idle hr]; exact ⟨h, hr, rfl⟩
  | some r =>
    obtain ⟨guard, engine, -, rest⟩ := h
    rw [abandonCal_running hr]
    exact ⟨post_tied _ ⟨guard, engine, ⟨nofun, fun _ => rfl⟩, rest⟩, rfl, rfl⟩

/-- The loss of home takes the event: no operation runs on, and READY starts a stroke. -/
theorem homeLost_kept (h : s.TiedAt true false) : (homeLost s).Kept := by
  obtain ⟨tied, ⟨away, -, -, -⟩, capture⟩ := h
  obtain ⟨tied', idle, same⟩ := abandonCal_tied tied
  have away' : (abandonCal s).home = false := same.trans away
  unfold homeLost
  extract_lets u
  split
  · next ready => exact (strokeStart_tiedAt tied' ready away').kept
  · next unready =>
    refine (show (abandonCal s).TiedAt false false from ⟨tied', ⟨away', fun k => absurd k unready,
      fun _ => .inl rfl, by simp [idle]⟩, ?_⟩).kept
    rw [abandonCal_stroke]
    exact capture

/-- Reaching home takes the event: a return ends its stroke. -/
theorem homeReached_kept (h : s.TiedAt false true) : (homeReached s).Kept := by
  obtain ⟨⟨guard, rest⟩, ⟨atHome, ready, -, run⟩, capture⟩ := h
  have released : (removeReason .resetHold s).Tied := ⟨guard.removeHold, rest⟩
  unfold homeReached
  extract_lets u
  split
  · next returns => exact (endStroke_tiedAt (home := true) released returns atHome).kept
  · next stays =>
    exact (show (removeReason .resetHold s).TiedAt true true from ⟨released,
      ⟨atHome, fun _ => rfl, fun k => absurd k stays, fun _ => rfl⟩, capture⟩).kept

/-- An event of home that is taken leaves none to be taken. -/
theorem homeChange_kept (h : s.TiedAt before home) : (homeChange before s).Kept := by
  have atHome : s.home = home := h.2.1.1
  rcases homeChange_cases before s with ⟨rfl, away, e⟩ | ⟨rfl, reached, e⟩ | ⟨still, e⟩ <;> rw [e]
  · rw [← atHome, away] at h
    exact homeLost_kept h
  · rw [← atHome, reached] at h
    exact homeReached_kept h
  · rw [← atHome, still] at h
    exact h.kept

theorem halt_kept (c : HaltCause) (h : s.Kept) : (halt c s).Kept :=
  (halt_tiedAt c h.1 h.2.1).kept

theorem guardChange_kept (h : s.Kept) : (guardChange before s).Kept := by
  rcases guardChange_cases before s with ⟨-, -, -, e⟩ | ⟨-, e⟩ <;> rw [e]
  · exact halt_kept _ h
  · exact h

/-! ### Seating and the dwell (04 R70, R76) -/

/-- RETRACT is entered with capture closed, and the stroke ends there with the ram home. -/
theorem dwellExpired_tiedAt (h : s.Tied) (hold : s.stroke.state = .hold) (atHome : s.home = home) :
    (dwellExpired s).TiedAt before home := by
  obtain ⟨guard, engine, cal, ⟨-, watchdog⟩, capture⟩ := h
  obtain ⟨condition, quiet⟩ := closed_capture capture
  obtain ⟨-, -, -, -, stations⟩ := capture
  rw [hold] at guard engine cal watchdog
  unfold dwellExpired
  extract_lets u v
  have tied : v.Tied := by
    unfold v u
    rw [closeCapture_eq]
    exact post_tied _ ⟨guard.enter rfl nofun, engine.enter nofun nofun, cal.enter rfl,
      ⟨iff_of_false nofun nofun, fun w => nomatch watchdog w⟩, nofun, condition, quiet, nofun,
      stations⟩
  have frame : v.stroke.state = .retract ∧ v.home = home ∧ v.cal = s.cal := by
    unfold v u
    rw [closeCapture_eq]
    exact ⟨rfl, atHome, rfl⟩
  obtain ⟨state, rfl, same⟩ := frame
  split
  · exact endStroke_tiedAt tied (by rw [state]; rfl) rfl
  · next away =>
    exact ⟨tied, ⟨rfl, by simp [state], fun _ => .inr (by simpa using away),
      by simp [same, cal.stopped rfl]⟩, by simp [state]⟩

/-- A seating in CAPTURE enters HOLD, where a dwell of 0 expires; capture may be closed already, and
closes where the quiet timer has expired. -/
theorem seatAt_tiedAt (station : Nat) (h : s.Tied) (capture : s.stroke.state = .capture)
    (atHome : s.home = home) : (seatAt station s).TiedAt before home := by
  obtain ⟨guard, engine, cal, -, -, captured⟩ := h
  rw [capture] at guard engine cal
  unfold seatAt
  extract_lets s1 s2 s3 s4 s5
  have h4 : s4.Tied := by
    unfold s4 s3 s2
    rw [addReason_eq]
    exact post_tied _ ⟨guard.addStroke rfl _, engine.enter nofun nofun, cal.enter rfl,
      ⟨iff_of_true rfl rfl, nofun⟩, fun _ => rfl, captured⟩
  have h5 : s5.Tied ∧ s5.stroke.state = .hold ∧ s5.home = home ∧ s5.cal = s.cal := by
    unfold s5
    split
    · exact ⟨closeCapture_tied h4, by rw [closeCapture_eq]; rfl,
        by rw [closeCapture_eq]; exact atHome, by rw [closeCapture_eq]; rfl⟩
    · exact ⟨h4, rfl, atHome, rfl⟩
  obtain ⟨tied, hold, same, calSame⟩ := h5
  split
  · exact dwellExpired_tiedAt tied hold same
  · exact ⟨tied, ⟨same, by simp [hold], by simp [hold, StrokeState.returning],
      by simp [calSame, cal.stopped rfl]⟩, by simp [hold]⟩

/-! ### Stations (03 R48 to R51, 04 R68, R69) -/

/-- The checks of a latch that find CAPTURE leave it with capture open, or leave CAPTURE. -/
theorem examineLatch_tiedAt (r : Station) (h : s.Tied) (homed : s.HomeTied before home)
    (capture : s.stroke.state = .capture)
    (more : s.pos.high ≠ s.stroke.params.maxStations → s.stroke.captureOpen = true) :
    (examineLatch r s).TiedAt before home := by
  unfold examineLatch
  extract_lets p
  split
  · exact seatAt_tiedAt _ h capture homed.1
  · split
    · exact halt_tiedAt _ h homed
    · next goesOn =>
      refine ⟨h, homed, fun _ => more fun last => goesOn ?_⟩
      simp [p, last]

/-- The count toward overtravel writes its own value and the due list (05 R93). -/
theorem countOvertravel_writes (s : State) : ∃ n d, countOvertravel s =
    { s with guard := { s.guard with overtravel := n }, due := d } := by
  unfold countOvertravel
  split
  · extract_lets n u
    split <;> exact ⟨_, _, rfl⟩
  · exact ⟨_, _, rfl⟩

/-- A latch appends station h, and at the station limit closes capture before the checks. -/
theorem latchStation_tiedAt (h : s.TiedAt before home) (isOpen : s.stroke.captureOpen = true) :
    (latchStation s.stroke.params.maxStations s).TiedAt before home := by
  obtain ⟨⟨guard, engine, cal, timers, mayCapture, condition, -, copies, stations⟩, homed, -⟩ := h
  have appended : (s.profile.records ++ [stationRecord s]).map Station.index =
      List.range (s.pos.high + 1) := by
    rw [List.map_append, stations, List.range_succ]
    rfl
  unfold latchStation
  extract_lets r s1 s2 s3 s4 s5
  obtain ⟨n, d, counted⟩ := countOvertravel_writes s2
  have h4 : s4.Tied ∧ s4.stroke.captureOpen = true ∧ s4.stroke.state = s.stroke.state ∧
      s4.stroke.params = s.stroke.params ∧ s4.pos.high = s.pos.high + 1 ∧
      s4.HomeTied before home := by
    unfold s4 s3
    rw [counted]
    exact ⟨⟨guard, engine, cal, timers, mayCapture, condition,
      iff_of_false nofun (fun closed => nomatch isOpen.symm.trans closed), copies, appended⟩, isOpen,
      rfl, rfl, rfl, homed⟩
  obtain ⟨tied4, open4, state4, params4, high4, homed4⟩ := h4
  have h5 : s5.Tied ∧ s5.HomeTied before home ∧
      (s5.pos.high ≠ s5.stroke.params.maxStations → s5.stroke.captureOpen = true) := by
    unfold s5
    split
    · next last =>
      have tied := closeCapture_tied tied4
      rw [closeCapture_eq] at tied ⊢
      exact ⟨tied, homed4, fun short => absurd (params4 ▸ last) short⟩
    · exact ⟨tied4, homed4, fun _ => open4⟩
  obtain ⟨tied5, homed5, more5⟩ := h5
  split
  · next capture => exact examineLatch_tiedAt r tied5 homed5 capture more5
  · next other => exact ⟨tied5, homed5, fun capture => absurd capture other⟩

/-- The latching test latches by the copies, which are those of the parameters (03 R48, R49). -/
theorem latchTest_tiedAt (h : s.TiedAt before home) : (latchTest s).TiedAt before home := by
  unfold latchTest
  split
  · exact h
  · next c hc =>
    split
    · next met =>
      have isOpen : s.stroke.captureOpen = true := by
        simp only [Bool.and_eq_true] at met
        exact met.1.1
      obtain ⟨⟨-, -, -, -, -, -, -, copies, -⟩, -⟩ := id h
      have limit : c.limit = s.stroke.params.maxStations := by
        rw [copies isOpen] at hc
        cases hc
        rfl
      rw [limit]
      exact latchStation_tiedAt h isOpen
    · exact h

/-- CAPTURE is entered from APPROACH with an empty profile and the copies taken (04 R68). -/
theorem captureEntry_tiedAt (h : s.TiedAt before home) (approach : s.stroke.state = .approach) :
    (captureEntry s).TiedAt before home := by
  obtain ⟨⟨guard, engine, cal, ⟨dwell, -⟩, -⟩, ⟨atHome, -, -, run⟩, -⟩ := h
  rw [approach] at guard engine cal dwell
  rw [captureEntry_eq]
  exact post_tiedAt _ ⟨⟨guard.enter rfl nofun, engine.enter nofun nofun, cal.enter rfl,
    ⟨iff_of_false (fun d => nomatch dwell.mp d) nofun, fun _ => rfl⟩, fun _ => rfl,
    iff_of_true rfl rfl, iff_of_false nofun nofun, fun _ => rfl, rfl⟩,
    ⟨atHome, nofun, nofun, run⟩, fun _ => rfl⟩

theorem countTaken_kept (wasApproach : Bool) (h : s.TiedAt before home) :
    (countTaken before wasApproach s).Kept := by
  have taken := homeChange_kept h
  unfold countTaken
  extract_lets u
  split
  · next entered =>
    have approach : u.stroke.state = .approach := by
      simp only [Bool.and_eq_true, beq_iff_eq] at entered
      exact entered.1.2
    exact (latchTest_tiedAt (captureEntry_tiedAt taken approach)).kept
  · exact (latchTest_tiedAt taken).kept

/-! ### The link's reply side -/

theorem placeNow_kept (w : Waiting) (h : s.Kept) : (placeNow w s).Kept := by
  cases w <;> exact h

theorem place_kept (w : Waiting) (h : s.Kept) : (place w s).Kept :=
  ite_kept (placeNow_kept w h) h

theorem answer_kept (kind : Byte) (a : Answer) (h : s.Kept) : (answer kind a s).Kept := by
  cases a
  case reply | counters | toolReset => exact place_kept _ h
  case snapshot | mapCommit => exact h

/-- A link whose watchdog runs as before may stand for the one held. -/
theorem State.Kept.withLink {l : Link} (h : s.Kept)
    (same : l.watchdog.isSome = s.link.watchdog.isSome) : ({ s with link := l } : State).Kept := by
  obtain ⟨⟨guard, engine, cal, ⟨dwell, watchdog⟩, capture⟩, rest⟩ := h
  rw [← same] at watchdog
  exact ⟨⟨guard, engine, cal, ⟨dwell, watchdog⟩, capture⟩, rest⟩

/-- A good frame restarts the watchdog only where it runs, and never starts it (10 R187). -/
theorem offer_kept (kind : Byte) {serve : State → State × Answer}
    (hs : ∀ u : State, u.Kept → (serve u).1.Kept) (h : s.Kept) : (offer kind serve s).Kept := by
  unfold offer
  extract_lets u
  have hu : u.Kept := h.withLink Option.isSome_map
  cases u.link.buffer with
  | empty => exact answer_kept _ _ (hs u hu)
  | snapshot | mapCommit | toolReset | waiting =>
    refine hu.withLink ?_
    dsimp only
    split <;> rfl

theorem transmit_kept (together : Bool) (h : s.Kept) : (transmit together s).Kept := by
  have reply (r : Reply) (rest : List Reply) : (sendReply r rest s).Kept := ite_kept h h
  unfold transmit
  split
  · exact h
  · refine ite_kept h ?_
    cases s.link.replies with
    | nil => cases s.link.reports <;> exact h
    | cons r rs =>
      cases s.link.reports with
      | nil => exact reply r rs
      | cons p ps => exact ite_kept (ite_kept h (reply r rs)) (reply r rs)

theorem resetBuffer_kept (h : s.Kept) : (resetBuffer s).Kept := by
  unfold resetBuffer
  cases s.link.buffer with
  | empty | snapshot | mapCommit | toolReset => exact h
  | waiting w =>
    cases w with
    | counters => exact place_kept _ h
    | made r => exact ite_kept h (place_kept _ h)

/-- The guard unit after a tool reset stands with DISARMED (05 R100, R102). -/
theorem Guard.TiedTo.toolReset {k : StrokeState} {g : Guard} (h : g.TiedTo k) (atHome : Bool) :
    (g.toolReset atHome).TiedTo .disarmed := by
  obtain ⟨-, lockout, readback, -⟩ := h
  refine ⟨rfl, lockout, ?_, nofun⟩
  unfold Guard.toolReset
  extract_lets left
  cases hl : left.isEmpty with
  | true => simp
  | false =>
    cases hs : g.sensed <;> cases he : g.reasons.isEmpty <;> simp_all

/-- A tool reset leaves DISARMED with nothing running. -/
theorem toolReset_kept (h : s.Kept) : (toolReset s).Kept := by
  obtain ⟨⟨guard, -⟩, -⟩ := h
  unfold toolReset
  extract_lets prior atHome s1 s2 s3 s4 s5 s6 s7
  have h6 : (s6.onLink Link.toolReset).Kept :=
    ⟨⟨guard.toolReset _, ⟨iff_of_false nofun nofun, fun _ => rfl⟩, ⟨nofun, fun _ => rfl⟩,
      ⟨iff_of_false nofun nofun, nofun⟩, nofun, iff_of_false nofun nofun, iff_of_true rfl rfl, nofun,
      rfl⟩, ⟨rfl, nofun, nofun, nofun⟩, nofun⟩
  exact (post_tiedAt _ (resetBuffer_kept h6)).kept

/-! ### The calibration unit -/

/-- An operation that ends leaves none, with every switch open. -/
theorem State.Kept.calEnds {c : Cal} (h : s.Kept) (ends : c.run = none)
    (opened : c.switches = switchesOpen) : ({ s with cal := c } : State).Kept := by
  obtain ⟨⟨guard, engine, -, rest⟩, ⟨-, ready, returning, -⟩, capture⟩ := h
  have none : ¬c.run.isSome = true := by simp [ends]
  exact ⟨⟨guard, engine, ⟨fun run => absurd run none, fun _ => opened⟩, rest⟩,
    ⟨rfl, ready, returning, fun run => absurd run none⟩, capture⟩

/-- An operation runs on, in whatever phase, or none does. -/
theorem State.Kept.calRuns {c : Cal} (h : s.Kept) (runs : c.run.isSome = s.cal.run.isSome)
    (switches : c.run = none → c.switches = s.cal.switches) :
    ({ s with cal := c } : State).Kept := by
  obtain ⟨⟨guard, engine, ⟨idle, opened⟩, rest⟩, ⟨-, ready, returning, run⟩, capture⟩ := h
  have none (e : c.run = none) : s.cal.run = none := by
    rw [← Option.isNone_iff_eq_none, ← Option.not_isSome, ← runs, e]
    rfl
  exact ⟨⟨guard, engine, ⟨fun r => idle (runs ▸ r), fun e => (switches e).trans (opened (none e))⟩,
    rest⟩, ⟨rfl, ready, returning, fun r => run (runs ▸ r)⟩, capture⟩

/-- An operation begins with the ram home, in DISARMED or COMPLETE (02 R24, R25). -/
theorem State.Kept.calBegins {c : Cal} (h : s.Kept) (idle : s.stroke.state.idle = true)
    (atHome : s.home = true) (runs : c.run.isSome = true) : ({ s with cal := c } : State).Kept := by
  obtain ⟨⟨guard, engine, -, rest⟩, ⟨-, ready, returning, -⟩, capture⟩ := h
  have some (e : c.run = none) : c.switches = switchesOpen := by simp [e] at runs
  exact ⟨⟨guard, engine, ⟨fun _ => idle, some⟩, rest⟩, ⟨rfl, ready, returning, fun _ => atHome⟩,
    capture⟩

theorem settleEnd_kept (h : s.Kept) : (settleEnd s).Kept := by
  cases hr : s.cal.run with
  | none => exact h.calRuns (by simp [hr]) (by simp [hr])
  | some r =>
    by_cases hp : r.phase = .waitSettle
    · cases hj : r.job <;> exact h.calRuns (by simp [hr, hp, hj]) (by simp [hr, hp, hj])
    · exact h.calRuns (by simp [hr, hp]) (by simp [hr, hp])

theorem shuntWaitEnd_kept (h : s.Kept) : (shuntWaitEnd s).Kept := by
  cases hr : s.cal.run with
  | none => exact h.calRuns (by simp [hr]) (by simp [hr])
  | some r =>
    by_cases hp : r.phase = .shuntWait
    · exact h.calRuns (by simp [hr, hp]) (by simp [hr, hp])
    · exact h.calRuns (by simp [hr, hp]) (by simp [hr, hp])

theorem tareCompletion_kept (h : s.Kept) : (tareCompletion s).Kept := by
  unfold tareCompletion
  split
  · exact h
  · next r _ =>
    split
    · exact h
    · extract_lets mean rail clamped opened u
      have hu : u.Kept := h
      exact (post_tiedAt _ (hu.calEnds (c := { s.cal with
        run := none, switches := switchesOpen, tareValid := true }) rfl rfl)).kept

theorem shuntGroupJudged_kept (h : s.Kept) : (shuntGroupJudged s).Kept := by
  unfold shuntGroupJudged
  split
  · exact h
  · next r hr =>
    split
    · exact h
    · split
      · exact h
      · next rest _ =>
        extract_lets members verdict written job u
        have hu : u.Kept := h
        cases rest with
        | nil =>
          exact (post_tiedAt _ (hu.calEnds (c := { s.cal with
            run := none, switches := switchesOpen }) rfl rfl)).kept
        | cons next later =>
          refine hu.calRuns ?_ nofun
          rw [show u.cal.run = some r from hr]
          rfl

/-! ### The steps that are due -/

theorem lockoutCause_kept (c : LockoutCause) (n : Option Nat) (h : s.Kept) :
    (lockoutCause c n s).Kept := (lockoutCause_tiedAt c n h).kept

theorem answerSnapshot_kept (h : s.Kept) : (answerSnapshot s).Kept := by
  unfold answerSnapshot
  cases s.link.buffer with
  | snapshot => exact place_kept _ h
  | empty | mapCommit | toolReset | waiting => exact h

theorem takeDue_kept (d : Due) (h : s.Kept) : (takeDue d s).Kept := by
  cases d with
  | settleEnd => exact settleEnd_kept h
  | tripSegment n f | tripTotal f =>
    exact halt_kept (s := s.onGuard fun g => { g with tripGiven := true, trip := some _ }) _ h
  | overrange n =>
    have latched := lockoutCause_kept .overrange (some n) h
    exact ite_kept (halt_kept _ latched) latched
  | bottomRail n => exact (post_tiedAt _ (s := s.onAcq _) h).kept
  | tareCompletion => exact tareCompletion_kept h
  | shuntWaitEnd => exact shuntWaitEnd_kept h
  | shuntGroupJudged => exact shuntGroupJudged_kept h
  | overtravel =>
    exact halt_kept _ (lockoutCause_kept
      (s := s.onGuard fun g => { g with overtravelGiven := true }) _ _ h)
  | deferredReply =>
    show (deferredReplyTaken s).Kept
    unfold deferredReplyTaken
    cases s.link.buffer with
    | waiting w => exact place_kept _ h
    | empty | snapshot | mapCommit | toolReset => exact h
  | toolReset => exact toolReset_kept h
  | snapshotReply => exact answerSnapshot_kept h

end operations

theorem takeThrough_kept {s : State} (wanted : Due → Bool) (ds : List Due) (h : s.Kept) :
    (takeThrough wanted ds s).Kept := by
  induction ds generalizing s with
  | nil => exact h
  | cons d ds ih =>
    have hd : (runDue d s).Kept := transmit_kept true (takeDue_kept (s := s.withDue s.due.tail) d h)
    exact ite_kept hd (ih hd)

/-- A command of the running part keeps the ties where its own effect does. -/
theorem live_kept {f : State → State} {s t : State} (hf : ∀ u : State, u.Kept → (f u).Kept)
    (h : s.Kept) (e : live f s = .next t) : t.Kept := by
  cases e
  exact ite_kept h (transmit_kept true (hf _ (takeThrough_kept _ _ h)))

/-- A command that is a due step keeps the ties. -/
theorem liveDue_kept {wanted : Due → Bool} {s t : State} (h : s.Kept)
    (e : liveDue wanted s = .next t) : t.Kept := by
  cases e
  exact ite_kept h (takeThrough_kept _ _ h)

/-! ### Events of home (04 R57) -/

/-- Home is read from its line, where one holds it, and else from the position unit. -/
theorem home_eq_getD (s : State) :
    s.home = ((s.lines.holding .home).map Line.inputActive).getD
      (s.pos.referenced && decide (s.pos.counter ≤ s.stroke.params.homeZone)) := by
  unfold State.home
  cases s.lines.holding .home <;> rfl

/-- The stored values have no part in which lines hold a function and are active. -/
theorem find_writeStored (k : LineFunction) (ls : List Line) (values : Nat → Bool) :
    ((ls.mapIdx fun n l => { l with stored := values n }).find?
        fun l => l.function == k).map Line.inputActive =
      (ls.find? fun l => l.function == k).map Line.inputActive := by
  induction ls generalizing values with
  | nil => rfl
  | cons l ls ih =>
    rw [List.mapIdx_cons, List.find?_cons, List.find?_cons]
    cases l.function == k with
    | true => rfl
    | false => exact ih fun n => values (n + 1)

section moves

variable {s : State} (h : s.Kept)

include h

/-- Lines that are written anew may move home. -/
theorem State.Kept.onLines (f : Lines → Lines) :
    (s.onLines f).TiedAt s.home (s.onLines f).home := by
  obtain ⟨tied, ⟨-, ready, returning, run⟩, capture⟩ := h
  exact ⟨tied, ⟨rfl, ready, fun k => .inl ((returning k).elim id id), run⟩, capture⟩

/-- A position that is written anew, but for the copies and h, may move home. -/
theorem State.Kept.onPos {f : Pos → Pos} (copies : (f s.pos).copies = s.pos.copies)
    (high : (f s.pos).high = s.pos.high) : (s.onPos f).TiedAt s.home (s.onPos f).home := by
  obtain ⟨⟨guard, engine, cal, timers, mayCapture, condition, quiet, taken, stations⟩,
    ⟨-, ready, returning, run⟩, capture⟩ := h
  exact ⟨⟨guard, engine, cal, timers, mayCapture, condition, quiet,
    fun o => copies.trans (taken o), high ▸ stations⟩,
    ⟨rfl, ready, fun k => .inl ((returning k).elim id id), run⟩, capture⟩

theorem flip_kept (ph : Phase) : (s.onPos (Pos.flip ph)).Kept := by
  cases ph <;> exact h

end moves

/-! ### The owners of the requests -/

/-- A choice between two answers that keep the ties keeps them. -/
theorem ite_answer_kept {p : Prop} [Decidable p] {a b : State × Answer} (ha : a.1.Kept)
    (hb : b.1.Kept) : (if p then a else b).1.Kept := by
  split
  · exact ha
  · exact hb

theorem idle_facts {k : StrokeState} (h : k.idle = true) :
    k ≠ .evaluate ∧ k ≠ .hold ∧ k.descending = false ∧ k.mayCapture = false ∧
      k.stopped = false := by
  cases k <;> simp_all [StrokeState.descending, StrokeState.idle, StrokeState.mayCapture,
    StrokeState.stopped]

/-- An ARM that is not refused finds no lockout, no operation and the ram home (04 R64). -/
theorem armRefusal_none {s : State} (h : armRefusal s = none) :
    s.guard.lockout.latched = false ∧ s.cal.run = none ∧ s.home = true := by
  have conditions := (armRefusal_none_iff s).mp h
  simp only [armConditions, List.forall_mem_cons] at conditions
  obtain ⟨cleared, resting, -, -, -, -, -, atHome, -⟩ := conditions
  exact ⟨cleared, resting, atHome⟩

section owners

variable {s : State} (h : s.Kept)

include h

theorem acceptParams_kept (p : Params) (idle : s.stroke.state.idle = true) :
    (acceptParams p s).Kept := by
  obtain ⟨-, -, -, closed, -⟩ := idle_facts idle
  obtain ⟨⟨guard, engine, cal, timers, mayCapture, condition, quiet, -, stations⟩,
    ⟨-, ready, returning, run⟩, capture⟩ := h
  unfold acceptParams
  extract_lets t u
  have isClosed (o : s.stroke.captureOpen = true) :
      s.pos.copies = some p.copies := by
    rw [mayCapture o] at closed
    cases closed
  have ht : t.TiedAt s.home t.home :=
    ⟨⟨guard, engine, cal, timers, mayCapture, condition, quiet, isClosed, stations⟩,
      ⟨rfl, ready, fun k => .inl ((returning k).elim id id), run⟩, capture⟩
  have hu : u.TiedAt s.home t.home := ite_tiedAt ht ht
  exact homeChange_kept hu

theorem acceptLines_kept (records : List LineWire) : (acceptLines records s).Kept :=
  guardChange_kept (homeChange_kept (h.onLines _))

theorem closeCommit_kept (c : Commit) : (closeCommit c s).Kept := by
  unfold closeCommit
  split
  · exact h
  · obtain ⟨⟨guard, ⟨runs, -⟩, rest⟩, homed⟩ := h
    exact ⟨⟨guard, ⟨runs, fun _ => rfl⟩, rest⟩, homed⟩

theorem commitClosed_kept : (commitClosed s).Kept := by
  unfold commitClosed
  split
  · exact h
  · exact closeCommit_kept h _

/-- READY is entered with the ram home, no lockout and no operation (04 R64). -/
theorem armed_kept (idle : s.stroke.state.idle = true) (accepted : armRefusal s = none) :
    (enterState .ready s).Kept := by
  obtain ⟨cleared, resting, atHome⟩ := armRefusal_none accepted
  have rests : ¬s.cal.run.isSome = true := by simp [resting]
  obtain ⟨unjudged, unheld, undescending, closed, unstopped⟩ := idle_facts idle
  obtain ⟨⟨⟨stroke, lockout, readback, -⟩, engine, ⟨-, switches⟩, ⟨dwell, watchdog⟩, mayCapture,
    capture⟩, -⟩ := h
  rw [unstopped] at stroke
  rw [undescending] at watchdog
  rw [closed] at mayCapture
  exact ⟨⟨⟨stroke, lockout, readback, fun _ => cleared⟩, engine.enter unjudged nofun,
    ⟨fun run => absurd run rests, switches⟩, ⟨iff_of_false (fun d => unheld (dwell.mp d)) nofun,
      fun w => nomatch watchdog w⟩, mayCapture, capture⟩,
    ⟨rfl, fun _ => atHome, nofun, fun run => absurd run rests⟩, nofun⟩

theorem serveArm_kept : (serveArm s).1.Kept := by
  rcases serveArm_cases s with ⟨_, e⟩ | ⟨idle, -, accepted, e⟩ <;> rw [e]
  · exact h
  · have stroke : (commitClosed s).stroke = s.stroke := by
      unfold commitClosed
      split
      · rfl
      · next c _ => rw [(closeCommit_eq c s).2]
    exact armed_kept (commitClosed_kept h) (by rw [stroke]; exact idle) accepted

theorem serveSetSegment_kept (w : SegmentWire) : (serveSetSegment w s).1.Kept := by
  refine ite_answer_kept h (ite_answer_kept h ?_)
  split
  · exact h
  · exact ite_answer_kept h (ite_kept (a := State.onCal _ _) h h)

theorem serveTare_kept : (serveTare s).1.Kept := by
  unfold serveTare
  split
  · exact h
  · split
    · exact h
    · next idle =>
      split
      · exact h
      · next atHome => exact h.calBegins (by simpa using idle) (by simpa using atHome) rfl

theorem serveShuntCheck_kept (selection : Byte) : (serveShuntCheck selection s).1.Kept := by
  unfold serveShuntCheck
  split
  · exact h
  · split
    · exact h
    · next idle =>
      split
      · exact h
      · split
        · exact h
        · next atHome => exact h.calBegins (by simpa using idle) (by simpa using atHome) rfl

theorem serveSetStroke_kept (w : StrokeWire) : (serveSetStroke w s).1.Kept := by
  unfold serveSetStroke
  split
  · exact h
  · next idle =>
    split
    · exact h
    · exact acceptParams_kept h _ (by simpa using idle)

theorem disarm_kept (idle : s.stroke.state = .ready ∨ s.stroke.state = .complete) :
    (disarm s).Kept := by
  have guard : s.guard.TiedTo .disarmed := by
    obtain ⟨⟨guard, -⟩, -⟩ := h
    rcases idle with k | k <;> rw [k] at guard <;> exact guard.enter rfl nofun
  exact (disarm_tiedAt h guard idle).kept

theorem serveDisarm_kept : (serveDisarm s).1.Kept := by
  cases hk : s.stroke.state <;> simp only [serveDisarm, hk]
  case ready => exact disarm_kept h (.inl hk)
  case complete => exact disarm_kept h (.inr hk)
  all_goals exact h

theorem serveAbort_kept : (serveAbort s).1.Kept := by
  cases hk : s.stroke.state <;> simp only [serveAbort, hk]
  case approach | capture | hold => exact halt_kept _ h
  case ready => exact disarm_kept h (.inl hk)
  all_goals exact h

/-- An accepted LOCKOUT_CLEAR clears the lockout and removes its reason (05 R99). -/
theorem acceptLockoutClear_kept : (acceptLockoutClear s).Kept := by
  obtain ⟨⟨guard, rest⟩, homed⟩ := h
  exact ⟨⟨guard.removeLockout rfl, rest⟩, homed⟩

theorem serveMapAdd_kept (records : List PinWire) : (serveMapAdd records s).1.Kept := by
  refine ite_answer_kept h ?_
  split
  · exact h
  · exact ite_answer_kept h h

theorem serveSetClass_kept (w : ClassWire) : (serveSetClass w s).1.Kept := by
  refine ite_answer_kept h ?_
  split
  · exact h
  · exact ite_kept h h

theorem serveResultSummary_kept : (serveResultSummary s).1.Kept := by
  refine ite_answer_kept h (ite_answer_kept h ?_)
  split <;> exact h

theorem serveSetSense_kept (period : BitVec 16) : (serveSetSense period s).1.Kept := by
  refine ite_answer_kept h (ite_answer_kept h ?_)
  split <;> exact h

theorem serveSetLines_kept (records : List LineWire) : (serveSetLines records s).1.Kept := by
  refine ite_answer_kept h (ite_answer_kept h ?_)
  split
  · exact h
  · exact acceptLines_kept h _

/-- WRITE_LINES writes the stored values, which home does not read (09 R168). -/
theorem serveWriteLines_kept (values : Byte) : (serveWriteLines values s).1.Kept := by
  have moved := h.onLines fun u => { u with lines := writeStored values u.lines }
  have still : (s.onLines fun u => { u with lines := writeStored values u.lines }).home = s.home := by
    rw [home_eq_getD, home_eq_getD]
    exact congrArg (Option.getD · _) (find_writeStored .home s.lines.lines _)
  rw [still] at moved
  exact moved.kept

end owners

/-- Every owner's immediate action keeps the ties. -/
theorem serve_kept (r : Request) {s : State} (h : s.Kept) : (serve r s).1.Kept := by
  cases r with
  | ping | status | countersRead | toolReset | getStroke | lockoutRead | readLines | snapshot
  | mapBegin => exact h
  | getSegment | mapRead | getClass | profileRead => exact ite_answer_kept h h
  | setLink | mapCommit => exact ite_answer_kept h (ite_answer_kept h h)
  | resultRead => exact ite_answer_kept h (ite_answer_kept h (ite_answer_kept h h))
  | lockoutClear =>
    exact ite_answer_kept h (ite_answer_kept h
      (ite_answer_kept h (ite_answer_kept h (acceptLockoutClear_kept h))))
  | tare => exact serveTare_kept h
  | shuntCheck selection => exact serveShuntCheck_kept h selection
  | setSense period => exact serveSetSense_kept h period
  | setSegment w => exact serveSetSegment_kept h w
  | setStroke w => exact serveSetStroke_kept h w
  | arm => exact serveArm_kept h
  | disarm => exact serveDisarm_kept h
  | abort => exact serveAbort_kept h
  | mapAdd records => exact serveMapAdd_kept h records
  | setClass w => exact serveSetClass_kept h w
  | resultSummary => exact serveResultSummary_kept h
  | setLines records => exact serveSetLines_kept h records
  | writeLines values => exact serveWriteLines_kept h values

theorem request_kept (r : Request) {s t : State} (h : s.Kept)
    (e : request r (serve r) s = .next t) : t.Kept :=
  live_kept (fun _ hu => offer_kept _ (fun _ hv => serve_kept r hv) hu) h e

/-! ### The events -/

section events

variable {s : State} (h : s.Kept)

include h

theorem frameComplete_kept (length : Byte) (taken : List Byte) (received : BitVec 16) :
    (frameComplete length taken received s).Kept := by
  refine ite_kept ?_ h
  unfold offerFrame
  split
  · exact h
  · refine offer_kept (s := setReceiver .seek s) _ (fun u hu => ?_) h
    unfold serveFrame
    split
    · exact serve_kept _ hu
    · exact hu
    · exact hu

theorem takeByte_kept (b : Byte) : (takeByte b s).Kept := by
  unfold takeByte
  cases s.link.receiver with
  | seek | header | body => exact ite_kept h h
  | check length taken first =>
    cases first with
    | none => exact h
    | some a => exact frameComplete_kept h _ _ _
  | discard => exact h

theorem frameReceived_kept (check : Byte) : (frameReceived check s).Kept := by
  unfold frameReceived
  cases s.link.receiver with
  | check length taken first =>
    cases first with
    | none => exact h
    | some a => exact frameComplete_kept h _ _ _
  | seek | header | body | discard => exact h

theorem headerLengthError_kept (b : Byte) : (headerLengthError b s).Kept := by
  unfold headerLengthError
  cases s.link.receiver with
  | header => exact ite_kept h h
  | seek | body | check | discard => exact h

theorem frameTimeout_kept : (frameTimeout s).Kept := by
  unfold frameTimeout
  split <;> exact h

theorem discardGapEnd_kept : (discardGapEnd s).Kept := by
  unfold discardGapEnd
  split <;> exact h

theorem frameTransmitted_kept : (frameTransmitted s).Kept := by
  unfold frameTransmitted
  split
  · exact h
  · exact ite_kept h (transmit_kept (s := s.onLink fun l => { l with sending := none }) _ h)

theorem stopWatchdog_kept : (stopWatchdog s).Kept := by
  obtain ⟨⟨guard, engine, cal, ⟨dwell, -⟩, capture⟩, rest⟩ := h
  exact ⟨⟨guard, engine, cal, ⟨dwell, nofun⟩, capture⟩, rest⟩

/-- The watchdog's first expiry restarts it, the second gives LINK_LOST (10 R187). -/
theorem watchdogExpiry_kept : (watchdogExpiry s).Kept := by
  unfold watchdogExpiry
  split
  · exact h
  · next w hw =>
    refine ite_kept ?_ (halt_kept _ (stopWatchdog_kept h))
    exact (post_tiedAt _ (h.withLink (l := { s.link with
      expiries := 1, watchdog := some s.link.interval }) (by simp [hw]))).kept

theorem commitEnd_kept : (commitEnd s).Kept := by
  unfold commitEnd
  split
  · exact h
  · have hc := closeCommit_kept h
    exact ite_kept (ite_kept (place_kept _ (hc _)) (hc _)) h

/-- An encoder fault loses the reference, and home with it where the position tells of home. -/
theorem encoderFaultTaken_kept (e : EncoderEvent) : (encoderFaultTaken e s).Kept := by
  have unreferenced := h.onPos (f := fun p => { p with referenced := false }) rfl rfl
  unfold encoderFaultTaken
  extract_lets before k u v w
  have posted : v.TiedAt s.home u.home := post_tiedAt _ unreferenced
  have halted : w.TiedAt s.home u.home := ite_tiedAt (halt_tiedAt _ posted.1 posted.2.1) posted
  exact homeChange_kept halted

theorem encoderFault_kept (t : Transition) : (encoderFault t s).Kept := by
  cases t with
  | both => exact encoderFaultTaken_kept (flip_kept (flip_kept h .a) .b) _
  | one ph => exact ite_kept (encoderFaultTaken_kept (flip_kept h ph) _) h

theorem encoderCount_kept (ph : Phase) : (encoderCount ph s).Kept := by
  have counted := h.onPos (f := fun p => { p.flip ph with counter := p.counted ph })
    (by cases ph <;> rfl) (by cases ph <;> rfl)
  exact ite_kept (encoderFaultTaken_kept (flip_kept h ph) _) (countTaken_kept _ counted)

theorem referencePulse_kept : (referencePulse s).Kept := by
  have referenced := h.onPos
    (f := fun p => { p with counter := 0, referenced := true, encZ := .high }) rfl rfl
  unfold referencePulse
  extract_lets before t u
  have hu : u.TiedAt s.home t.home := ite_tiedAt (post_tiedAt _ referenced) referenced
  exact homeChange_kept hu

theorem dwellExpiry_kept : (dwellExpiry s).Kept := by
  unfold dwellExpiry
  split
  · next runs => exact (dwellExpired_tiedAt (home := s.home) h.1 runs.1 rfl).kept
  · exact h

/-- The quiet timer's expiry is marked in CAPTURE, and elsewhere closes capture (04 R71). -/
theorem quietTimerExpiry_kept : (quietTimerExpiry s).Kept := by
  unfold quietTimerExpiry
  split
  · next runs =>
    obtain ⟨tied, homed, capture⟩ := h
    split
    · obtain ⟨guard, engine, cal, timers, mayCapture, condition, quiet, captured⟩ := tied
      refine ⟨⟨guard, engine, cal, timers, mayCapture, condition, iff_of_false nofun ?_, captured⟩,
        homed, capture⟩
      intro closed
      exact nomatch runs.symm.trans (quiet.mpr closed)
    · next other =>
      have closed := closeCapture_tied tied
      rw [closeCapture_eq] at closed ⊢
      exact ⟨closed, homed, fun k => absurd k other⟩
  · exact h

/-- The engine completes in EVALUATE, and COMPLETE is entered (07 R124, 04 R78). -/
theorem evaluationCompletion_kept : (evaluationCompletion s).Kept := by
  unfold evaluationCompletion
  split
  · exact h
  · next i running =>
    obtain ⟨⟨guard, ⟨runs, -⟩, ⟨-, switches⟩, ⟨dwell, watchdog⟩, mayCapture, capture⟩,
      ⟨-, -, -, run⟩, -⟩ := h
    have evaluates : s.stroke.state = .evaluate := runs.mp (by simp [running])
    rw [evaluates] at guard dwell watchdog mayCapture
    extract_lets results summary u v
    have hv : v.TiedAt s.home s.home :=
      ⟨⟨guard.enter rfl nofun, ⟨iff_of_false nofun nofun, fun _ => rfl⟩,
        ⟨fun _ => rfl, switches⟩,
        ⟨iff_of_false (fun d => nomatch dwell.mp d) nofun, fun w => nomatch watchdog w⟩,
        fun o => (nomatch mayCapture o), capture⟩, ⟨rfl, nofun, nofun, run⟩, nofun⟩
    exact (post_tiedAt _ hv).kept

/-- The line sensed low stops the readback timer, sensed high starts it over a set that is not empty
(05 R85). -/
theorem stopNSenseChange_kept (level : Level) : (stopNSenseChange level s).Kept := by
  obtain ⟨⟨⟨stroke, lockout, readback, cleared⟩, rest⟩, homed⟩ := id h
  refine ite_kept h ?_
  cases level with
  | low =>
    unfold senseLow
    extract_lets external u
    have hu : u.Kept :=
      ⟨⟨⟨stroke, lockout, iff_of_true rfl (.inr rfl), cleared⟩, rest⟩, homed⟩
    exact ite_kept (halt_kept _ hu) hu
  | high =>
    refine ⟨⟨⟨stroke, lockout, ?_, cleared⟩, rest⟩, homed⟩
    show (if s.guard.reasons.isEmpty then s.guard.readback else .running) = Timer.stopped ↔
      s.guard.reasons.isEmpty = true ∨ Level.high = .low
    cases he : s.guard.reasons.isEmpty <;> simp_all

theorem readbackTimerExpiry_kept : (readbackTimerExpiry s).Kept := by
  unfold readbackTimerExpiry
  split
  · next runs =>
    obtain ⟨⟨⟨stroke, lockout, readback, cleared⟩, rest⟩, homed⟩ := h
    have expired : Timer.expired = .stopped ↔
        s.guard.reasons.isEmpty = true ∨ s.guard.sensed = .low :=
      iff_of_false nofun fun stops => nomatch runs.symm.trans (readback.mpr stops)
    exact halt_kept _ (lockoutCause_kept
      (s := s.onGuard fun g => { g with readback := .expired }) _ _
      ⟨⟨⟨stroke, lockout, expired, cleared⟩, rest⟩, homed⟩)
  · exact h

theorem lineFilterChange_kept (n : Nat) (level : Level) : (lineFilterChange n level s).Kept :=
  ite_kept h (guardChange_kept (homeChange_kept (h.onLines _)))

/-! ### The close of a conversion round -/

theorem publishRound_kept (set : SampleSet) : (publishRound set s).Kept := by
  unfold publishRound
  extract_lets before s1 examines s2 s3 bottoms overs trips t
  have h1 : s1.Kept := h
  have h2 : s2.Kept := ite_kept h1 h1
  have h3 : s3.Kept := h2.calRuns Option.isSome_map (by simp)
  have ht : t.Kept := h3
  exact ite_kept ht ht

theorem closeSnapshot_kept : (closeSnapshot s).Kept := by
  rcases closeSnapshot_cases s with ⟨-, e⟩ | ⟨-, e | e⟩ <;> rw [e]
  · exact answerSnapshot_kept h
  · exact answerSnapshot_kept h
  · exact h

theorem roundClose_kept (bridges : List Int) : (roundClose bridges s).Kept := by
  have settled : (settleRound (sampleSet s.acq bridges) s).Kept := h
  exact closeSnapshot_kept (ite_kept settled (publishRound_kept h _))

/-- The idle tick writes the level of ENC_Z, the counter of free choices and the working table. -/
theorem tick_kept : (tick s).Kept := by
  obtain ⟨level, n, e⟩ := tick_eq s
  obtain ⟨⟨guard, ⟨runs, work⟩, rest⟩, homed⟩ := h
  rw [e]
  refine ⟨⟨guard, ⟨runs, fun resting => ?_⟩, rest⟩, homed⟩
  have none : s.engine.run = Option.none := resting
  simp only [none]
  exact work none

end events

/-! ### Every command, and every step -/

/-- The part at the release of power-on reset has the ties. -/
theorem released_kept (w : Straps) : (State.released w).Kept :=
  (strokeTies_iff_kept _).mp (released_strokeTies w)

/-- Every command keeps the ties. -/
theorem exec_kept (c : Instr) {s t : State} (h : s.Kept) (e : exec c s = .next t) : t.Kept := by
  cases c with
  | ping | status | countersRead | setLink | toolReset | setSense | setSegment | getSegment
  | snapshot | tare | shuntCheck | setStroke | getStroke | arm | disarm | abort | lockoutRead
  | lockoutClear | mapBegin | mapAdd | mapCommit | mapRead | setClass | getClass | profileRead
  | resultRead | resultSummary | setLines | writeLines | readLines => exact request_kept _ h e
  | toolResetActs | deferredReplyPlaced | settleEnd | tripSegment | tripTotal | overrangeEvent
  | bottomRailPair | tareCompletion | shuntWaitEnd | shuntGroupJudged | overtravel =>
    exact liveDue_kept h e
  | mapCommitCompletion => exact live_kept (fun _ => commitEnd_kept) h e
  | frameReceived check => exact live_kept (fun _ hu => frameReceived_kept hu check) h e
  | headerLengthError b => exact live_kept (fun _ hu => headerLengthError_kept hu b) h e
  | frameTimeout => exact live_kept (fun _ => frameTimeout_kept) h e
  | discardGapEnd => exact live_kept (fun _ => discardGapEnd_kept) h e
  | frameTransmitted => exact live_kept (fun _ => frameTransmitted_kept) h e
  | watchdogExpiry => exact live_kept (fun _ => watchdogExpiry_kept) h e
  | linkReset => exact live_kept (f := linkReset) (fun _ hu => hu) h e
  | resetNToolReset us =>
    exact live_kept (f := resetPulse us) (fun _ hu => ite_kept (toolReset_kept hu) hu) h e
  | powerOnReset => cases e; exact released_kept Straps.allLow
  | powerOnResetRelease w =>
    cases e
    exact ite_kept (a := powerOnRelease w s) (released_kept w) (takeThrough_kept _ _ h)
  | conversionRoundClose bridges => exact live_kept (fun _ hu => roundClose_kept hu bridges) h e
  | encoderCount ph => exact live_kept (fun _ hu => encoderCount_kept hu ph) h e
  | encoderFault tr => exact live_kept (fun _ hu => encoderFault_kept hu tr) h e
  | referencePulse => exact live_kept (fun _ => referencePulse_kept) h e
  | dwellExpiry => exact live_kept (fun _ => dwellExpiry_kept) h e
  | quietTimerExpiry => exact live_kept (fun _ => quietTimerExpiry_kept) h e
  | evaluationCompletion => exact live_kept (fun _ => evaluationCompletion_kept) h e
  | stopNSenseChange level => exact live_kept (fun _ hu => stopNSenseChange_kept hu level) h e
  | readbackTimerExpiry => exact live_kept (fun _ => readbackTimerExpiry_kept) h e
  | lineFilterChange line level =>
    exact live_kept (fun _ hu => lineFilterChange_kept hu line.val level) h e
  | byteTaken b => exact live_kept (fun _ hu => takeByte_kept hu b) h e

/-- Settles O56: the ties are those of `State.Kept`, which every command and every idle step keeps. -/
theorem strokeTiesAreKept : Obligations.StrokeTiesAreKept := by
  intro s t h e
  rw [strokeTies_iff_kept] at h ⊢
  unfold step at e
  cases hp : s.pending with
  | cons c rest =>
    rw [hp] at e
    exact exec_kept c (s := { s with pending := rest }) h e
  | nil =>
    rw [hp] at e
    cases e
    exact ite_kept h (ite_kept (tick_kept h) (takeThrough_kept _ _ h))

end Sys2Proof.Machine
end

section
/-! SUPPORT. LOCKOUT_READ and LOCKOUT_CLEAR (05 R98, R99): the record's fields, and the four checks
in their order. -/

namespace Sys2Proof.Machine

/-! ### LOCKOUT_READ (05 R98) -/

/-- The report or reply field of a segment, or none. -/
theorem segmentField_eq (o : Option Nat) : segmentField o = u8 (o.getD 0xFF) := by
  cases o <;> rfl

/-- Settles O19, by the record's fields one by one. -/
theorem lockoutReadReturnsTheRecord : Obligations.LockoutReadReturnsTheRecord := by
  refine ⟨fun s serving => ?_, rfl⟩
  have latched : u8 (bit s.guard.lockout.latched) =
      [if s.guard.lockout.latched then 1#8 else 0#8] := by
    cases s.guard.lockout.latched <;> rfl
  refine (request_read serving rfl rfl).trans ?_
  rw [lockoutBody, latched, segmentField_eq, stationField_eq]
  cases s.guard.lockout.cause with
  | none => rfl
  | some c => cases c <;> rfl

/-! ### LOCKOUT_CLEAR (05 R99) -/

/-- The key is on where the line that holds MAINT reads its active level. -/
theorem maintOn_iff (s : State) : s.maintOn = true ↔ maintActive s := by
  have holding : s.lines.holding .maint = s.lines.lines.find? fun l => l.function = .maint := rfl
  unfold State.maintOn maintActive
  rw [holding]
  cases s.lines.lines.find? fun l => l.function = .maint with
  | none => simp
  | some l => simp [Line.inputActive]

/-- The rail check looks at the latest raw code of every enabled segment. -/
theorem someTopRail_iff (s : State) : s.acq.someTopRail = true ↔ someAtTopRail s := by
  simp only [Acq.someTopRail, someAtTopRail, List.any_eq_true, List.mem_range, Bool.and_eq_true]
  refine exists_congr fun n => and_congr_right fun _ => ⟨fun ⟨enabled, top⟩ => ?_, ?_⟩
  · have segment : s.acq.segs[n]? = some (s.acq.seg n) := by
      cases hg : s.acq.segs[n]? with
      | some g => rw [Acq.seg_eq hg]
      | none => simp [Acq.seg, hg, Segment.initial] at enabled
    have sample : s.acq.latest.samples[n]? = some (s.acq.latest.at n) := by
      cases hx : s.acq.latest.samples[n]? with
      | some x => rw [SampleSet.at_eq hx]
      | none => simp [SampleSet.at, hx, Sample.disabled, Sample.atTop] at top
    exact ⟨_, _, segment, enabled, sample, beq_iff_eq.mp top⟩
  · rintro ⟨g, x, segment, enabled, sample, top⟩
    rw [Acq.seg_eq segment, SampleSet.at_eq sample]
    exact ⟨enabled, beq_iff_eq.mpr top⟩

section clear

variable {s : State}

theorem serveLockoutClear_state (h : s.stroke.state.idle = false) :
    serveLockoutClear s = (s, .refusal .state) := by
  simp [serveLockoutClear, h]

variable (idle : s.stroke.state.idle = true)

include idle

theorem serveLockoutClear_noMaint (key : ¬maintActive s) :
    serveLockoutClear s = (s, .refusal .noMaint) := by
  simp [serveLockoutClear, idle, mt (maintOn_iff s).mp key]

variable (key : maintActive s)

include key

theorem serveLockoutClear_rail (rail : someAtTopRail s) :
    serveLockoutClear s = (s, .refusal .rail) := by
  simp [serveLockoutClear, idle, (maintOn_iff s).mpr key, (someTopRail_iff s).mpr rail]

variable (off : ¬someAtTopRail s)

include off

theorem serveLockoutClear_notLatched (cleared : s.guard.lockout.latched = false) :
    serveLockoutClear s = (s, .refusal .notLatched) := by
  simp [serveLockoutClear, idle, (maintOn_iff s).mpr key, mt (someTopRail_iff s).mp off, cleared]

theorem serveLockoutClear_ok (latched : s.guard.lockout.latched = true) :
    serveLockoutClear s = (acceptLockoutClear s, .ok) := by
  simp [serveLockoutClear, idle, (maintOn_iff s).mpr key, mt (someTopRail_iff s).mp off, latched]

end clear

theorem remove_lockout_isEmpty (r : StopSet) :
    (r.remove .lockout).isEmpty = true ↔ r.stroke = false ∧ r.resetHold = false := by
  simp [StopSet.remove, StopSet.isEmpty]

/-- A released lockout: the record is CLEARED, and LOCKOUT leaves the set (05 R83, R85, R99). -/
theorem acceptLockoutClear_eq (s : State) :
    acceptLockoutClear s = { s with
      guard := { s.guard with
        lockout := { s.guard.lockout with latched := false }
        reasons := { s.guard.reasons with lockout := false }
        readback :=
          if s.guard.reasons.stroke = false ∧ s.guard.reasons.resetHold = false then .stopped
          else s.guard.readback } } := by
  simp only [acceptLockoutClear, removeReason_eq, State.onGuard, remove_lockout_isEmpty]
  rfl

/-- Settles O20, by the first check that fails, or the release. -/
theorem lockoutClearReleasesTheLockout : Obligations.LockoutClearReleasesTheLockout := by
  intro s serving
  refine ⟨fun busy => ?_, fun idle key => ?_, fun idle key rail => ?_,
    fun idle key off cleared => ?_, fun idle key off latched => ?_⟩
  · exact request_read serving rfl (serveLockoutClear_state busy)
  · exact request_read serving rfl (serveLockoutClear_noMaint idle key)
  · exact request_read serving rfl (serveLockoutClear_rail idle key rail)
  · exact request_read serving rfl (serveLockoutClear_notLatched idle key off cleared)
  · rw [← acceptLockoutClear_eq]
    exact request_acts serving rfl (serveLockoutClear_ok (s := s.heard) idle key off latched) rfl
      serving.quiet

end Sys2Proof.Machine
end

section
/-! SUPPORT. Trips (05 R88 to R90): the halt cause that a trip gives. -/

namespace Sys2Proof.Machine

/-- A trip has been given: its flag and its detail are written (05 R88, R89). -/
def State.tripped (detail : TripDetail) (s : State) : State :=
  { s with due := [], guard := { s.guard with tripGiven := true, trip := some detail } }

section trips

variable {s : State} {d : Due} {wanted : Due → Bool} {c : HaltCause} {detail : TripDetail}
  (runs : s.held = false) (fed : s.link.fed) (away : s.home = false) (due : s.due = [d])
  (picked : wanted d = true) (trip : takeDue d (s.withDue []) = halt c (s.tripped detail))

include runs fed away due picked trip

/-- A trip that is due halts a descent (04 R72). -/
theorem liveDue_trip_descending (descends : s.stroke.state.descending = true) :
    liveDue wanted s = .next (State.haltedBy c (s.tripped detail)) := by
  rw [liveDue_owing runs due picked, trip,
    transmit_haltedBy (s := s.tripped detail) descends away nofun fed]

/-- A trip that is due cuts a dwell (04 R73). -/
theorem liveDue_trip_hold (hold : s.stroke.state = .hold) :
    liveDue wanted s = .next (State.heldBy c (s.tripped detail)) := by
  rw [liveDue_owing runs due picked, trip,
    transmit_heldBy (s := s.tripped detail) hold away nofun fed]

end trips

/-- Settles O37: each of the two trips, in a descent and in HOLD. -/
theorem tripsHaltTheStroke : Obligations.TripsHaltTheStroke := by
  intro s f n runs fed away
  refine ⟨fun due descends => ?_, fun due descends => ?_, fun due hold => ?_, fun due hold => ?_⟩
  · exact liveDue_trip_descending runs fed away due rfl rfl descends
  · exact liveDue_trip_descending runs fed away due rfl rfl descends
  · exact liveDue_trip_hold runs fed away due rfl rfl hold
  · exact liveDue_trip_hold runs fed away due rfl rfl hold

end Sys2Proof.Machine
end

section
/-! SUPPORT. Lockout causes (05 R91, R93, R95 to R97): the lockout or the repeat, and the halt cause
that follows it. -/

namespace Sys2Proof.Machine

/-! ### A cause over a cleared record, or over a latched one (05 R96, R97) -/

/-- A lockout cause has been taken, and has disarmed nothing: a lockout and its report, or a repeat
(05 R96, R97). -/
def State.lockedBy (cause : LockoutCause) (segment : Option Nat) (s : State) : State :=
  if s.guard.lockout.latched then s.repeated
  else (s.lockedOut cause segment).reported (lockoutReport (s.newLockout cause segment))

/-- A lockout has been latched in READY: the head is disarmed and reports it before the lockout
(04 R67; log 37). -/
def State.lockedInReady (cause : LockoutCause) (segment : Option Nat) (s : State) : State :=
  State.reported (lockoutReport (s.newLockout cause segment))
    (State.reported
      { kind := 0x40#8, severity := .info
        body := [0#8] ++ u8 cause.halt.code ++ bytes2 s.stroke.number ++
          u16 (s.pos.lastStation.getD 0xFFFF) }
      { s.lockedOut cause segment with
        stroke := { s.stroke with state := .disarmed }
        link := { s.link with watchdog := none } })

theorem countsStops_eq (k : StrokeState) :
    k.countsStops = decide (k ∈ [StrokeState.approach, .capture, .hold, .halted]) := by
  cases k <;> rfl

section causes

variable {cause : LockoutCause} {segment : Option Nat} {s : State}

theorem lockedBy_stroke : (s.lockedBy cause segment).stroke = s.stroke := by
  unfold State.lockedBy
  split <;> rfl

theorem lockedBy_home : (s.lockedBy cause segment).home = s.home := by
  unfold State.lockedBy
  split <;> rfl

/-- The record and the reason of a lockout, written together (05 R85, R92, R96). -/
theorem addReason_lockout :
    addReason .lockout
        { s with guard := { s.guard with lockout := s.newLockout cause segment } } =
      s.lockedOut cause segment := by
  rw [addReason_eq, countsStops_eq]
  rfl

/-- A lockout takes no state out of the stroke, and none into it. -/
theorem lockoutCause_inStroke :
    (lockoutCause cause segment s).stroke.state.inStroke = s.stroke.state.inStroke := by
  cases latched : s.guard.lockout.latched with
  | true => rw [lockoutCause_latched latched]; rfl
  | false =>
    rw [lockoutCause_cleared latched, addReason_lockout]
    by_cases ready : s.stroke.state = .ready
    · have disarmed : lockoutInReady cause (s.lockedOut cause segment) =
          postStroke .info cause.halt.code (disarm (s.lockedOut cause segment)) := if_pos ready
      rw [disarmed, ready]
      rfl
    · rw [lockoutInReady_other (s := s.lockedOut cause segment) ready]
      rfl

end causes

namespace State.SentAs

variable {n : Nat} {s t : State} {cause : LockoutCause} {segment : Option Nat}

/-- A cause that disarms nothing reports the lockout, or nothing. -/
theorem lockedBy (h : s.SentAs (n + 1) t)
    (stands : t.stroke.state ≠ .ready ∨ t.guard.lockout.latched = true) :
    (lockoutCause cause segment s).SentAs n (t.lockedBy cause segment) := by
  obtain ⟨hd, hr, rfl⟩ := h
  have same : s.seen.guard = s.guard := rfl
  cases latched : s.guard.lockout.latched with
  | true =>
    rw [lockoutCause_latched latched, State.lockedBy, same, latched]
    exact mono (s := s.repeated) ⟨hd, hr, rfl⟩ (Nat.le_succ n)
  | false =>
    rw [same, latched] at stands
    have unready : s.stroke.state ≠ .ready := stands.resolve_right nofun
    rw [lockoutCause_cleared latched, addReason_lockout,
      lockoutInReady_other (s := s.lockedOut cause segment) unready, State.lockedBy, same, latched]
    exact of_post hd hr rfl

/-- A cause that latches a lockout in READY reports both. -/
theorem lockedInReady (h : s.SentAs (n + 2) t) (ready : t.stroke.state = .ready)
    (cleared : t.guard.lockout.latched = false) :
    (lockoutCause cause segment s).SentAs n (t.lockedInReady cause segment) := by
  obtain ⟨hd, hr, rfl⟩ := h
  have disarmed : lockoutInReady cause (s.lockedOut cause segment) =
      postStroke .info cause.halt.code (disarm (s.lockedOut cause segment)) := if_pos ready
  rw [lockoutCause_cleared (s := s) cleared, addReason_lockout, disarmed, postStroke,
    strokeEvent_eq]
  exact (of_post (n := n + 1) (s := disarm (s.lockedOut cause segment)) hd hr rfl).post _

/-- A halt cause taken in HALTED or RETRACT reports nothing (04 R74). -/
theorem halt_returning (c : HaltCause) (h : s.SentAs n t)
    (hs : s.stroke.state.returning = true) : (halt c s).SentAs n (t.secondaryBy c) := by
  obtain ⟨hd, hr, rfl⟩ := h
  rw [Machine.halt_returning hs]
  exact ⟨hd, hr, rfl⟩

end State.SentAs

/-! ### The halt cause of a lockout cause, by the state it finds (04 R67, R72 to R74) -/

section halts

variable {s : State} {cause : LockoutCause} {segment : Option Nat} (c : HaltCause)
  (shown : s.SentAs 16 s)

include shown

/-- In HALTED and RETRACT it is recorded (04 R74). -/
theorem transmit_locks_returning (returns : s.stroke.state.returning = true) :
    transmit true (halt c (lockoutCause cause segment s)) =
      (s.lockedBy cause segment).secondaryBy c := by
  have locked := shown.lockedBy (n := 15) (cause := cause) (segment := segment)
    (.inl fun ready => by simp [ready, StrokeState.returning] at returns)
  exact (locked.halt_returning c (by rw [locked.stroke_eq, lockedBy_stroke, returns])).transmit

/-- In APPROACH and CAPTURE it halts the stroke, which ends there with the ram home (04 R72,
R77). -/
theorem transmit_locks_descending (descends : s.stroke.state.descending = true) :
    transmit true (halt c (lockoutCause cause segment s)) =
      if s.home then ((s.lockedBy cause segment).haltedBy c).ended
      else (s.lockedBy cause segment).haltedBy c := by
  have locked := shown.lockedBy (n := 15) (cause := cause) (segment := segment)
    (.inl fun ready => by simp [ready, StrokeState.descending] at descends)
  rw [(locked.halt_descending (n := 13) c
    (by rw [locked.stroke_eq, lockedBy_stroke, descends])).transmit, locked.home_eq, lockedBy_home]

/-- In HOLD it halts the stroke after its outcome (04 R73, R77). -/
theorem transmit_locks_hold (hold : s.stroke.state = .hold) :
    transmit true (halt c (lockoutCause cause segment s)) =
      if s.home then ((s.lockedBy cause segment).heldBy c).ended
      else (s.lockedBy cause segment).heldBy c := by
  have locked := shown.lockedBy (n := 15) (cause := cause) (segment := segment)
    (.inl fun ready => by simp [ready] at hold)
  rw [(locked.halt_hold (n := 13) c
    (by rw [locked.stroke_eq, lockedBy_stroke, hold])).transmit, locked.home_eq, lockedBy_home]

/-- Outside a stroke a lockout cause gives no halt cause; a lockout that is latched already disarms
nothing (04 R67, R74). -/
theorem transmit_locks_outside
    (outside : s.stroke.state ∈ [StrokeState.disarmed, .evaluate, .complete] ∨
      (s.stroke.state = .ready ∧ s.guard.lockout.latched = true)) :
    transmit true (halt c (lockoutCause cause segment s)) = s.lockedBy cause segment := by
  have idle : s.stroke.state.inStroke = false := by
    rcases outside with k | ⟨k, -⟩
    · cases e : s.stroke.state <;> simp_all [StrokeState.inStroke]
    · rw [k]; rfl
  have stands : s.stroke.state ≠ .ready ∨ s.guard.lockout.latched = true :=
    outside.imp (fun k ready => by simp [ready] at k) And.right
  rw [halt_outside (lockoutCause_inStroke.trans idle)]
  exact (shown.lockedBy (n := 15) stands).transmit

/-- In READY a lockout disarms the head (04 R67). -/
theorem transmit_locks_ready (ready : s.stroke.state = .ready)
    (cleared : s.guard.lockout.latched = false) :
    transmit true (halt c (lockoutCause cause segment s)) = s.lockedInReady cause segment := by
  rw [halt_outside (lockoutCause_inStroke.trans (by rw [ready]; rfl))]
  exact (shown.lockedInReady (n := 14) ready cleared).transmit

end halts

/-! ### Overrange events and bottom-rail pairs (05 R91, 01 R10) -/

/-- An overrange event gives its lockout cause and its halt cause; outside a stroke the stroke
controller takes no halt cause anyway (05 R91, 04 R74). -/
theorem overrangeTaken_eq (segment : Nat) (s : State) :
    overrangeTaken segment s = halt .overrange (lockoutCause .overrange (some segment) s) := by
  unfold overrangeTaken
  cases gives : s.stroke.state.inStroke with
  | true => rfl
  | false => exact (halt_outside (lockoutCause_inStroke.trans gives)).symm

/-- An overrange event that is due, for its command. -/
theorem exec_overrange {n : Fin 64} {s : State} (runs : s.held = false)
    (due : s.due = [.overrange n.val]) :
    exec (.overrangeEvent n) s = .next (transmit true
      (halt .overrange (lockoutCause .overrange (some n.val) (s.withDue [])))) := by
  show liveDue _ s = _
  rw [liveDue_owing runs due (by simp), takeDue, overrangeTaken_eq]

/-- A bottom-rail pair opens its segment and reports it (01 R10). -/
theorem bottomRailTaken_eq {n : Nat} {s : State} {g : Segment} (h : s.acq.segs[n]? = some g) :
    bottomRailTaken n s = post
      { kind := 0x43#8, severity := .note, body := u8 n ++ [4#8] ++ bytes2 s.stroke.number }
      { s with acq := { s.acq with segs := s.acq.segs.set n { g with status := .opened } } } := by
  rw [bottomRailTaken, State.onAcq, Acq.seg_eq h]
  rfl

/-- A report leaves the watchdog. -/
theorem Link.reported_watchdog (r : Report) (l : Link) : (l.reported r).watchdog = l.watchdog := by
  unfold Link.reported
  split
  · rw [Link.post_frame]
  · rfl

/-- Settles O38: an overrange event by the state it finds, and a bottom-rail pair. -/
theorem railEventsLockOutAndOpen : Obligations.RailEventsLockOutAndOpen := by
  refine ⟨fun n s runs due fed => ?_, fun n s g runs due fed segment => ?_⟩
  · have shown : (s.withDue []).SentAs 16 (s.withDue []) := .of_fed rfl fed
    rw [exec_overrange runs due]
    refine ⟨fun cleared outside => ?_, fun latched outside => ?_,
      ⟨fun returns => ?_, fun descends => ?_, fun hold => ?_⟩, fun cleared ready => ?_⟩
    · rw [transmit_locks_outside _ shown (.inl outside), State.lockedBy,
        State.withDue_guard, cleared]
      rfl
    · have stands : s.stroke.state ∈ [StrokeState.disarmed, .evaluate, .complete] ∨
          (s.stroke.state = .ready ∧ s.guard.lockout.latched = true) := by
        simp only [List.mem_cons, List.not_mem_nil, or_false, latched] at outside ⊢
        tauto
      rw [transmit_locks_outside _ shown stands, State.lockedBy, State.withDue_guard, latched]
      rfl
    · rw [transmit_locks_returning _ shown returns]
      rfl
    · rw [transmit_locks_descending _ shown descends]
      rfl
    · rw [transmit_locks_hold _ shown hold]
      rfl
    · rw [transmit_locks_ready _ shown ready cleared]
      refine ⟨_, rfl, rfl, rfl, rfl, rfl, rfl, rfl, ?_⟩
      exact (Link.reported_watchdog _ _).trans (Link.reported_watchdog _ _)
  · show liveDue _ s = _
    rw [liveDue_owing runs due (by simp), takeDue, bottomRailTaken_eq (s := s.withDue []) segment]
    exact congrArg Host.Outcome.next (transmit_post nofun fed)

/-! ### Overtravel (05 R93) -/

/-- A count of the guard unit below its limit: the first that exceeds the allowance makes OVERTRAVEL
due (05 R93). -/
theorem countOvertravel_counting {s : State} (counting : s.guard.counting = true)
    (short : s.guard.overtravel < 1024) :
    countOvertravel s = { s with
      guard := { s.guard with overtravel := s.guard.overtravel + 1 }
      due := if s.guard.overtravelGiven = false ∧
          s.stroke.params.allowance < s.guard.overtravel + 1 then s.due ++ [.overtravel]
        else s.due } := by
  have next : satSucc 1024 s.guard.overtravel = s.guard.overtravel + 1 := if_pos short
  rw [countOvertravel, if_pos counting, next]
  by_cases exceeds : s.guard.overtravelGiven = false ∧
      s.stroke.params.allowance < s.guard.overtravel + 1
  · rw [if_pos exceeds]
    exact if_pos (by simpa using exceeds)
  · rw [if_neg exceeds]
    exact if_neg (by simpa using exceeds)

/-- A latch outside CAPTURE, short of the station limit, while stops are counted. -/
theorem latchStation_counting {limit : Nat} {s : State} (stopped : s.stroke.state ≠ .capture)
    (more : s.pos.high + 1 ≠ limit) (counting : s.guard.counting = true)
    (short : s.guard.overtravel < 1024) :
    latchStation limit s = { s.latched with
      guard := { s.guard with overtravel := s.guard.overtravel + 1 }
      due := if s.guard.overtravelGiven = false ∧
          s.stroke.params.allowance < s.guard.overtravel + 1 then s.due ++ [.overtravel]
        else s.due } := by
  have e : latchStation limit s =
      (let w := (countOvertravel { s.latched with stroke := s.stroke }).onStroke
        fun k => { k with quiet := .running }
      let u := if w.pos.high = limit then closeCapture w else w
      if u.stroke.state = .capture then examineLatch s.stationNow u else u) := by
    rw [latchStation, stationRecord_eq]
    rfl
  have unclosed (w : State) (h : w.pos.high = s.pos.high + 1) :
      (if w.pos.high = limit then closeCapture w else w) = w := if_neg (h ▸ more)
  have unexamined (w : State) (h : w.stroke.state = s.stroke.state) :
      (if w.stroke.state = .capture then examineLatch s.stationNow w else w) = w :=
    if_neg (h ▸ stopped)
  rw [e, countOvertravel_counting (s := { s.latched with stroke := s.stroke }) counting short]
  simp only
  rw [unclosed _ rfl]
  exact unexamined _ rfl

/-- OVERTRAVEL that is due, for its command. -/
theorem exec_overtravel {s : State} (runs : s.held = false) (due : s.due = [.overtravel]) :
    exec .overtravel s = .next (transmit true (halt .overtravel (lockoutCause .overtravel none
      { s with due := [], guard := { s.guard with overtravelGiven := true } }))) :=
  liveDue_owing runs due rfl

/-- Settles O45: the latch that is counted, and the OVERTRAVEL it makes due, by the state it
finds. -/
theorem overtravelIsCountedAndLocksOut : Obligations.OvertravelIsCountedAndLocksOut := by
  refine ⟨fun ph s ready bounded stopped isOpen away awayAfter counting short copies room
    reached => ?_, fun s runs due fed => ?_⟩
  · have notCapture : s.stroke.state ≠ .capture := by
      rcases stopped with k | k <;> rw [k] <;> nofun
    have latches : latchTest (s.counted ph) =
        latchStation s.stroke.params.maxStations (s.counted ph) := by
      rw [← counted_high ph s] at room reached
      exact latchTest_reached (s := s.counted ph) isOpen ((counted_copies ph s).trans copies)
        (Nat.lt_of_succ_lt room) reached
    have descends : (s.stroke.state == .approach) = true →
        (s.counted ph).stroke.state = .approach →
        (s.counted ph).pos.counter < (s.counted ph).stroke.params.captureStart := by
      intro k
      rcases stopped with e | e <;> rw [e] at k <;> exact absurd k nofun
    have more : (s.counted ph).pos.high + 1 ≠ s.stroke.params.maxStations := by
      rw [counted_high]; exact Nat.ne_of_lt room
    have same : s.home = (s.counted ph).home := away.trans awayAfter.symm
    show execEncoderCount ph s = _
    rw [encoderCount_ready ready bounded, same, countTaken_latchTest descends, latches,
      latchStation_counting (s := s.counted ph) notCapture more counting short,
      transmit_fed (by exact ready.fed), counted_due, ready.quiet]
    rfl
  · intro e u
    have shown : e.SentAs 16 e := .of_fed rfl fed
    rw [exec_overtravel runs due]
    refine ⟨fun returns => ?_, fun hold away => ?_, fun hold home => ?_, fun descends away => ?_,
      fun descends home => ?_, fun outside => ?_⟩
    · rw [transmit_locks_returning _ shown returns]
      rfl
    · rw [transmit_locks_hold _ shown hold, show e.home = false from away]
      rfl
    · rw [transmit_locks_hold _ shown hold, show e.home = true from home]
      rfl
    · rw [transmit_locks_descending _ shown descends, show e.home = false from away]
      rfl
    · rw [transmit_locks_descending _ shown descends, show e.home = true from home]
      rfl
    · rw [transmit_locks_outside _ shown outside]
      rfl

end Sys2Proof.Machine
end

section
/-! SUPPORT. The stop line (05 R84 to R86, R92): its sensed levels, and the readback of this head's
own drive. -/

namespace Sys2Proof.Machine

/-! ### The sensed line (05 R84, R86, R92) -/

section sensed

variable {s : State}

theorem stopNSenseChange_same {level : Level} (h : s.guard.sensed = level) :
    stopNSenseChange level s = s := if_pos h

/-- STOP_N sensed low has been taken, but for the external stop (05 R85, R92). -/
def State.sensedLow (s : State) : State :=
  { s with
    guard := { s.guard with
      sensed := .low, readback := .stopped
      counting := s.guard.counting || decide (s.stroke.state ∈
        [StrokeState.approach, .capture, .hold, .halted]) } }

/-- The line goes low; with no reason of this head's own it halts a descent (05 R86). -/
theorem stopNSenseChange_low (h : s.guard.sensed = .high) :
    stopNSenseChange .low s =
      if s.guard.reasons.isEmpty = true ∧ s.stroke.state.descending = true then
        halt .externalStop s.sensedLow
      else s.sensedLow := by
  simp only [stopNSenseChange, h, reduceCtorEq, if_false, senseLow, Bool.and_eq_true,
    countsStops_eq]
  rfl

/-- The line goes high: a head that drives it low reads it back (05 R85). -/
theorem stopNSenseChange_high (h : s.guard.sensed = .low) :
    stopNSenseChange .high s = { s with
      guard := { s.guard with
        sensed := .high
        readback := if s.guard.reasons.isEmpty then s.guard.readback else .running } } := by
  simp only [stopNSenseChange, h, reduceCtorEq, if_false]
  rfl

end sensed

/-! ### The readback timer (05 R85) -/

/-- A running readback timer that expires gives its lockout cause and its halt cause. -/
theorem exec_readbackTimerExpiry {s : State} (ready : s.Ready)
    (running : s.guard.readback = .running) :
    exec .readbackTimerExpiry s = .next (transmit true (halt .stopReadback (lockoutCause
      .stopReadback none { s with guard := { s.guard with readback := .expired } }))) := by
  show live readbackTimerExpiry s = _
  rw [live_ready ready, readbackTimerExpiry, if_pos running]
  rfl

/-- Settles O51: the line by its level, and a readback failure by the state it finds. -/
theorem stopLineIsSensedAndReadBack : Obligations.StopLineIsSensedAndReadBack := by
  refine ⟨fun s ready => ⟨fun level same => ?_, fun high own => ?_,
    fun high none descends away => ?_, fun low => ?_⟩,
    fun s ready => ⟨fun still => ?_, fun running => ?_⟩⟩
  · have unchanged := stopNSenseChange_same same
    exact (live_unsent ready (by rw [unchanged])).trans (congrArg Host.Outcome.next unchanged)
  · have sensed := (stopNSenseChange_low high).trans (if_neg own)
    exact (live_unsent ready (by rw [sensed]; rfl)).trans (congrArg Host.Outcome.next sensed)
  · have sensed := (stopNSenseChange_low high).trans (if_pos ⟨none, descends⟩)
    have counting : s.sensedLow = { s with guard := { s.guard with
        sensed := .low, readback := .stopped, counting := true } } := by
      cases k : s.stroke.state <;> simp_all [State.sensedLow, StrokeState.descending]
    show live (stopNSenseChange .low) s = _
    rw [live_ready ready, sensed,
      transmit_haltedBy (s := s.sensedLow) descends away (by exact ready.quiet ▸ nofun) ready.fed,
      counting]
  · have sensed := stopNSenseChange_high low
    exact (live_unsent ready (by rw [sensed])).trans (congrArg Host.Outcome.next sensed)
  · have unchanged : readbackTimerExpiry s = s := if_neg still
    exact (live_unsent ready (by rw [unchanged])).trans (congrArg Host.Outcome.next unchanged)
  · intro e u
    have shown : e.SentAs 16 e := .of_fed ready.quiet ready.fed
    rw [exec_readbackTimerExpiry ready running]
    refine ⟨fun outside => ?_, fun inReady latched => ?_, fun inReady cleared => ?_,
      fun returns => ?_, fun descends => ?_, fun hold => ?_⟩
    · rw [transmit_locks_outside _ shown (.inl outside)]
      rfl
    · rw [transmit_locks_outside _ shown (.inr ⟨inReady, latched⟩)]
      rfl
    · rw [transmit_locks_ready _ shown inReady cleared]
      rfl
    · rw [transmit_locks_returning _ shown returns]
      rfl
    · rw [transmit_locks_descending _ shown descends]
      rfl
    · rw [transmit_locks_hold _ shown hold]
      rfl

end Sys2Proof.Machine
end

section
/-! SUPPORT. A latched lockout (05 R95 to R99): no command but a LOCKOUT_CLEAR, or its frame, and a
power-on reset releases it. -/

namespace Sys2Proof.Machine

/-! ### What is kept

The receiver is kept with the lockout: the steps that are due leave it, so that a byte finds the
frame in it that stood there before them. -/

/-- The lockout is latched, and `p` holds of the receiver. -/
def State.Locked (p : Receiver → Prop) (s : State) : Prop :=
  s.guard.lockout.latched = true ∧ p s.link.receiver

/-- The lockout is latched, whatever the receiver holds. -/
abbrev State.Latched (s : State) : Prop := s.Locked fun _ => True

/-- A choice between two locked parts is locked. -/
theorem ite_locked {p : Receiver → Prop} {c : Prop} [Decidable c] {a b : State} (ha : a.Locked p)
    (hb : b.Locked p) : (if c then a else b).Locked p := by
  split
  · exact ha
  · exact hb

/-! ### The shared operations -/

section operations

variable {p : Receiver → Prop} {s : State} (h : s.Locked p)

include h

theorem post_locked (r : Report) : (post r s).Locked p := by
  obtain ⟨latched, receiver⟩ := h
  refine ⟨latched, ?_⟩
  show p (s.link.post r).receiver
  rw [Link.post_frame]
  exact receiver

theorem closeCapture_locked : (closeCapture s).Locked p := by
  rw [closeCapture_eq]; exact h

theorem endStroke_locked : (endStroke s).Locked p := by
  rw [endStroke_eq]; exact post_locked (by exact h) _

theorem haltedEntry_locked : (haltedEntry s).Locked p := by
  have closed : (if s.stroke.quiet == .expired then closeCapture s else s).Locked p :=
    ite_locked (closeCapture_locked h) h
  exact ite_locked (endStroke_locked closed) closed

theorem enterHalted_locked (c : HaltCause) : (enterHalted c s).Locked p :=
  haltedEntry_locked (post_locked (s := stopWatchdog (enterState .halted s)) h _)

theorem halt_locked (c : HaltCause) : (halt c s).Locked p := by
  unfold halt
  cases s.stroke.state with
  | approach | capture =>
    exact enterHalted_locked
      (s := addReason .stroke (s.onStroke fun k => { k with outcome := .halt c })) h c
  | hold =>
    exact enterHalted_locked
      (s := s.onStroke fun k => { recordSecondary c k with dwell := none }) h c
  | disarmed | ready | halted | retract | evaluate | complete => exact h

/-- A cause over a latched lockout is a repeat (05 R97). -/
theorem lockoutCause_locked (c : LockoutCause) (segment : Option Nat) :
    (lockoutCause c segment s).Locked p := by
  rw [lockoutCause_latched h.1]; exact h

theorem giveApproachCauses_locked : (giveApproachCauses s).Locked p := by
  have fold : ∀ (cs : List HaltCause) (u : State), u.Locked p →
      (cs.foldl (fun t c => halt c t) u).Locked p := by
    intro cs
    induction cs with
    | nil => exact fun u hu => hu
    | cons c cs ih => exact fun u hu => ih _ (halt_locked hu c)
  exact fold _ _ (ite_locked (a := s.tickFree) h h)

theorem strokeStart_locked : (strokeStart s).Locked p := by
  rw [strokeStart_eq, State.approached, watchdogApproach_eq]
  exact giveApproachCauses_locked (post_locked (by exact h) _)

theorem abandonCal_locked : (abandonCal s).Locked p := by
  cases running : s.cal.run with
  | none => rw [abandonCal_idle running]; exact h
  | some r => rw [abandonCal_running running]; exact post_locked (by exact h) _

theorem homeChange_locked (before : Bool) : (homeChange before s).Locked p := by
  rcases homeChange_cases before s with ⟨-, -, e⟩ | ⟨-, -, e⟩ | ⟨-, e⟩ <;> rw [e]
  · have abandoned := abandonCal_locked h
    exact ite_locked (strokeStart_locked abandoned) abandoned
  · exact ite_locked (endStroke_locked (s := removeReason .resetHold s) h) h
  · exact h

theorem guardChange_locked (before : Bool) : (guardChange before s).Locked p := by
  rcases guardChange_cases before s with ⟨-, -, -, e⟩ | ⟨-, e⟩ <;> rw [e]
  · exact halt_locked h _
  · exact h

/-! ### Stations -/

theorem dwellExpired_locked : (dwellExpired s).Locked p := by
  have retracted := post_locked (closeCapture_locked
    (s := enterState .retract (s.onStroke fun k => { k with dwell := none })) h)
  exact ite_locked (endStroke_locked (retracted _)) (retracted _)

theorem seatAt_locked (station : Nat) : (seatAt station s).Locked p := by
  unfold seatAt
  extract_lets s1 s2 s3 s4 s5
  have h4 : s4.Locked p := post_locked (s := s3) h _
  have h5 : s5.Locked p := ite_locked (closeCapture_locked h4) h4
  exact ite_locked (dwellExpired_locked h5) h5

theorem examineLatch_locked (r : Station) : (examineLatch r s).Locked p :=
  ite_locked (seatAt_locked h _) (ite_locked (halt_locked h _) h)

theorem countOvertravel_locked : (countOvertravel s).Locked p := by
  obtain ⟨n, d, e⟩ := countOvertravel_writes s
  rw [e]; exact h

theorem latchStation_locked (limit : Nat) : (latchStation limit s).Locked p := by
  unfold latchStation
  extract_lets r s1 s2 s3 s4 s5
  have h4 : s4.Locked p := countOvertravel_locked (s := s2) h
  have h5 : s5.Locked p := ite_locked (closeCapture_locked h4) h4
  exact ite_locked (examineLatch_locked h5 r) h5

theorem latchTest_locked : (latchTest s).Locked p := by
  unfold latchTest
  split
  · exact h
  · exact ite_locked (latchStation_locked h _) h

theorem countTaken_locked (before wasApproach : Bool) :
    (countTaken before wasApproach s).Locked p := by
  have changed := homeChange_locked h before
  have entered : (captureEntry (homeChange before s)).Locked p := by
    rw [captureEntry_eq]; exact post_locked (by exact changed) _
  exact ite_locked (latchTest_locked entered) (latchTest_locked changed)

/-! ### The link's reply side -/

theorem place_locked (w : Waiting) : (place w s).Locked p := by
  have placed : (placeNow w s).Locked p := by cases w <;> exact h
  exact ite_locked placed h

theorem answer_locked (kind : Byte) (a : Answer) : (answer kind a s).Locked p := by
  cases a
  case reply | counters | toolReset => exact place_locked h _
  case snapshot | mapCommit => exact h

theorem overrun_locked (kind : Byte) : (overrun kind s).Locked p := by
  unfold overrun
  rw [State.onLink]
  extract_lets l
  cases l.replyRoom <;> exact h

theorem transmit_locked (together : Bool) : (transmit together s).Locked p := by
  have reply (r : Reply) (rest : List Reply) : (sendReply r rest s).Locked p := ite_locked h h
  unfold transmit
  split
  · exact h
  · refine ite_locked h ?_
    cases s.link.replies with
    | nil => cases s.link.reports <;> exact h
    | cons r rs =>
      cases s.link.reports with
      | nil => exact reply r rs
      | cons q qs => exact ite_locked (ite_locked h (reply r rs)) (reply r rs)

theorem resetBuffer_locked : (resetBuffer s).Locked p := by
  unfold resetBuffer
  cases s.link.buffer with
  | empty | snapshot | mapCommit | toolReset => exact h
  | waiting w =>
    cases w with
    | counters => exact place_locked h _
    | made r => exact ite_locked h (place_locked h _)

/-- A tool reset keeps the lockout record (05 R102) and the receiver (10 R193). -/
theorem toolReset_locked : (toolReset s).Locked p := by
  unfold toolReset
  extract_lets prior home s1 s2 s3 s4 s5 s6 s7
  obtain ⟨latched, receiver⟩ := h
  have h7 : s7.Locked p := resetBuffer_locked (s := s6.onLink Link.toolReset) ⟨latched, receiver⟩
  exact post_locked h7 _

/-! ### The steps that are due -/

theorem tareCompletion_locked : (tareCompletion s).Locked p := by
  unfold tareCompletion
  split
  · exact h
  · split
    · exact h
    · exact post_locked (by exact h) _

theorem shuntGroupJudged_locked : (shuntGroupJudged s).Locked p := by
  unfold shuntGroupJudged
  split
  · exact h
  · split
    · exact h
    · split
      · exact h
      · next rest _ =>
        cases rest with
        | nil => exact post_locked (by exact h) _
        | cons => exact h

theorem answerSnapshot_locked : (answerSnapshot s).Locked p := by
  unfold answerSnapshot
  cases s.link.buffer with
  | snapshot => exact place_locked h _
  | empty | mapCommit | toolReset | waiting => exact h

theorem deferredReplyTaken_locked : (deferredReplyTaken s).Locked p := by
  unfold deferredReplyTaken
  cases s.link.buffer with
  | waiting w => exact place_locked h _
  | empty | snapshot | mapCommit | toolReset => exact h

theorem takeDue_locked (d : Due) : (takeDue d s).Locked p := by
  cases d with
  | settleEnd | shuntWaitEnd => exact h
  | tripSegment | tripTotal =>
    exact halt_locked (s := s.onGuard fun g => { g with tripGiven := true, trip := some _ }) h _
  | overrange segment =>
    have repeated := lockoutCause_locked h .overrange (some segment)
    exact ite_locked (halt_locked repeated _) repeated
  | bottomRail => exact post_locked (s := s.onAcq _) h _
  | tareCompletion => exact tareCompletion_locked h
  | shuntGroupJudged => exact shuntGroupJudged_locked h
  | overtravel =>
    exact halt_locked (lockoutCause_locked
      (s := s.onGuard fun g => { g with overtravelGiven := true }) h _ _) _
  | deferredReply => exact deferredReplyTaken_locked h
  | toolReset => exact toolReset_locked h
  | snapshotReply => exact answerSnapshot_locked h

end operations

theorem takeThrough_locked {p : Receiver → Prop} {s : State} (wanted : Due → Bool) (ds : List Due)
    (h : s.Locked p) : (takeThrough wanted ds s).Locked p := by
  induction ds generalizing s with
  | nil => exact h
  | cons d ds ih =>
    have taken : (runDue d s).Locked p :=
      transmit_locked (takeDue_locked (s := s.withDue s.due.tail) h d) true
    exact ite_locked taken (ih taken)

/-! ### The owners of the requests -/

section owners

variable {p : Receiver → Prop} {s : State}

theorem ite_answer_locked {c : Prop} [Decidable c] {a b : State × Answer} (ha : a.1.Locked p)
    (hb : b.1.Locked p) : (if c then a else b).1.Locked p := by
  split
  · exact ha
  · exact hb

variable (h : s.Locked p)

include h

theorem closeCommit_locked (c : Commit) : (closeCommit c s).Locked p := by
  unfold closeCommit
  split <;> exact h

theorem serveArm_locked : (serveArm s).1.Locked p := by
  rcases serveArm_cases s with ⟨_, e⟩ | ⟨-, -, -, e⟩ <;> rw [e]
  · exact h
  · have closed : (commitClosed s).Locked p := by
      unfold commitClosed
      split
      · exact h
      · exact closeCommit_locked h _
    exact closed

theorem serveSetSense_locked (period : BitVec 16) : (serveSetSense period s).1.Locked p := by
  refine ite_answer_locked h (ite_answer_locked h ?_)
  split <;> exact h

theorem serveSetSegment_locked (w : SegmentWire) : (serveSetSegment w s).1.Locked p := by
  refine ite_answer_locked h (ite_answer_locked h ?_)
  split
  · exact h
  · refine ite_answer_locked h ?_
    exact ite_locked (a := ((invalidateResults s).onAcq _).onCal _) h h

theorem serveSetStroke_locked (w : StrokeWire) : (serveSetStroke w s).1.Locked p := by
  refine ite_answer_locked h ?_
  split
  · exact h
  · unfold acceptParams
    extract_lets t u
    have ht : t.Locked p := h
    have hu : u.Locked p := ite_locked ht ht
    exact homeChange_locked hu _

theorem serveDisarm_locked : (serveDisarm s).1.Locked p := by
  unfold serveDisarm
  cases s.stroke.state <;> exact h

theorem serveAbort_locked : (serveAbort s).1.Locked p := by
  unfold serveAbort
  cases s.stroke.state with
  | approach | capture | hold => exact halt_locked h _
  | disarmed | ready | halted | retract | evaluate | complete => exact h

theorem serveMapAdd_locked (records : List PinWire) : (serveMapAdd records s).1.Locked p := by
  refine ite_answer_locked h ?_
  split
  · exact h
  · exact ite_answer_locked h h

theorem serveSetClass_locked (w : ClassWire) : (serveSetClass w s).1.Locked p := by
  refine ite_answer_locked h ?_
  split
  · exact h
  · exact ite_locked (b := (invalidateResults s).onMap _) h h

theorem serveResultSummary_locked : (serveResultSummary s).1.Locked p := by
  refine ite_answer_locked h (ite_answer_locked h ?_)
  split <;> exact h

theorem serveSetLines_locked (records : List LineWire) :
    (serveSetLines records s).1.Locked p := by
  refine ite_answer_locked h (ite_answer_locked h ?_)
  split
  · exact h
  · exact guardChange_locked (homeChange_locked (s := s.onLines _) h _) _

/-- No owner but that of LOCKOUT_CLEAR releases the lockout. -/
theorem serve_locked (r : Request) (unclear : r ≠ .lockoutClear) : (serve r s).1.Locked p := by
  cases r with
  | ping | status | countersRead | toolReset | getStroke | lockoutRead | readLines | snapshot
  | mapBegin | writeLines => exact h
  | getSegment | mapRead | getClass | profileRead => exact ite_answer_locked h h
  | setLink | mapCommit => exact ite_answer_locked h (ite_answer_locked h h)
  | tare | resultRead =>
    exact ite_answer_locked h (ite_answer_locked h (ite_answer_locked h h))
  | shuntCheck =>
    exact ite_answer_locked h
      (ite_answer_locked h (ite_answer_locked h (ite_answer_locked h h)))
  | setSense period => exact serveSetSense_locked h period
  | setSegment w => exact serveSetSegment_locked h w
  | setStroke w => exact serveSetStroke_locked h w
  | arm => exact serveArm_locked h
  | disarm => exact serveDisarm_locked h
  | abort => exact serveAbort_locked h
  | lockoutClear => exact absurd rfl unclear
  | mapAdd records => exact serveMapAdd_locked h records
  | setClass w => exact serveSetClass_locked h w
  | resultSummary => exact serveResultSummary_locked h
  | setLines records => exact serveSetLines_locked h records

/-- A good frame that meets an occupied buffer, or whose owner keeps the lockout, keeps it. -/
theorem offer_locked (kind : Byte) {serve : State → State × Answer}
    (served : s.link.buffer = .empty → ∀ u : State, u.Locked p → (serve u).1.Locked p) :
    (offer kind serve s).Locked p := by
  unfold offer
  have heard : (reloadWatchdog s).Locked p := h
  have same : (reloadWatchdog s).link.buffer = s.link.buffer := rfl
  simp only [same]
  cases buffer : s.link.buffer with
  | empty => exact answer_locked (served buffer _ heard) _ _
  | snapshot | mapCommit | toolReset | waiting => exact overrun_locked heard _

end owners

/-! ### The frame of a LOCKOUT_CLEAR (10 R179, R181) -/

theorem noPayload_request {r q : Request} {payload : List Byte}
    (h : noPayload r payload = .request q) : r = q ∧ payload = [] := by
  cases payload with
  | nil => exact ⟨Decoded.request.inj h, rfl⟩
  | cons => cases h

/-- Only the kind of LOCKOUT_CLEAR with no payload is one. -/
theorem decodeRequest_lockoutClear {kind : Byte} {payload : List Byte}
    (h : decodeRequest kind payload = .request .lockoutClear) : kind = 0x19#8 ∧ payload = [] := by
  unfold decodeRequest at h
  split at h
  case h_18 => exact ⟨BitVec.eq_of_toNat_eq ‹_›, (noPayload_request h).2⟩
  case h_4 | h_6 | h_8 | h_11 | h_20 | h_22 | h_24 | h_25 | h_26 | h_28 | h_29 =>
    split at h <;> cases h
  case h_7 => unfold decodeSegment at h; split at h <;> cases h
  case h_12 => unfold decodeStroke at h; split at h <;> cases h
  case h_23 => unfold decodeClass at h; split at h <;> cases h
  case h_31 => cases h
  all_goals exact absurd (noPayload_request h).1 nofun

section frames

variable {s : State}

/-- A good frame of anything else keeps the lockout, and so does one that meets an occupied
buffer. -/
theorem frameComplete_latched {length : Byte} {taken : List Byte} {received : BitVec 16}
    (h : s.Latched)
    (other : s.link.buffer = .empty → taken = [0x19#8] → received ≠ crc [length, 0x19#8]) :
    (frameComplete length taken received s).Latched := by
  unfold frameComplete
  split
  · next good =>
    unfold offerFrame
    cases taken with
    | nil => exact h
    | cons kind payload =>
      refine offer_locked (s := setReceiver .seek s) h kind fun buffer u hu => ?_
      unfold serveFrame
      split
      · next r decoded =>
        refine serve_locked hu r fun clear => ?_
        obtain ⟨rfl, rfl⟩ := decodeRequest_lockoutClear (clear ▸ decoded)
        exact other buffer rfl good
      · exact hu
      · exact hu
  · exact h

/-- The byte that the receiver awaits in CHECK completes the frame; any other byte keeps the
lockout. -/
theorem takeByte_latched {b : Byte} (h : s.Latched)
    (other : s.link.buffer = .empty → ∀ n a, s.link.receiver = .check n [0x19#8] (some a) →
      word2 a b ≠ crc [n, 0x19#8]) : (takeByte b s).Latched := by
  unfold takeByte
  cases receiver : s.link.receiver with
  | seek | header | body => exact ite_locked h h
  | check length taken first =>
    cases first with
    | none => exact h
    | some a =>
      exact frameComplete_latched h fun buffer clear => other buffer length a (clear ▸ receiver)
  | discard => exact h

theorem frameReceived_latched {check : Byte} (h : s.Latched)
    (other : s.link.buffer = .empty → ∀ n a, s.link.receiver = .check n [0x19#8] (some a) →
      word2 a check ≠ crc [n, 0x19#8]) : (frameReceived check s).Latched := by
  unfold frameReceived
  cases receiver : s.link.receiver with
  | check length taken first =>
    cases first with
    | none => exact h
    | some a =>
      exact frameComplete_latched h fun buffer clear => other buffer length a (clear ▸ receiver)
  | seek | header | body | discard => exact h

end frames

/-! ### The other events -/

section events

variable {s : State} (h : s.Latched)

include h

theorem headerLengthError_latched (b : Byte) : (headerLengthError b s).Latched := by
  unfold headerLengthError
  cases s.link.receiver with
  | header => exact ite_locked h h
  | seek | body | check | discard => exact h

theorem frameTimeout_latched : (frameTimeout s).Latched := by
  unfold frameTimeout
  split <;> exact h

theorem discardGapEnd_latched : (discardGapEnd s).Latched := by
  unfold discardGapEnd
  split <;> exact h

theorem frameTransmitted_latched : (frameTransmitted s).Latched := by
  unfold frameTransmitted
  split
  · exact h
  · exact ite_locked h (transmit_locked (s := s.onLink fun l => { l with sending := none }) h _)

theorem watchdogExpiry_latched : (watchdogExpiry s).Latched := by
  unfold watchdogExpiry
  split
  · exact h
  · exact ite_locked (post_locked (s := s.onLink _) h _) (halt_locked (s := stopWatchdog s) h _)

theorem commitEnd_latched : (commitEnd s).Latched := by
  unfold commitEnd
  split
  · exact h
  · have closed := closeCommit_locked h
    exact ite_locked (ite_locked (place_locked (closed _) _) (closed _)) h

theorem encoderFaultTaken_latched (e : EncoderEvent) : (encoderFaultTaken e s).Latched := by
  unfold encoderFaultTaken
  extract_lets before k u v w
  have posted : v.Latched := post_locked (s := u) h _
  have halted : w.Latched := ite_locked (halt_locked posted _) posted
  exact homeChange_locked halted _

theorem encoderFault_latched (t : Transition) : (encoderFault t s).Latched := by
  cases t with
  | both => exact encoderFaultTaken_latched (s := (s.onPos _).onPos (Pos.flip .b)) h _
  | one ph => exact ite_locked (encoderFaultTaken_latched (s := s.onPos _) h _) h

theorem encoderCount_latched (ph : Phase) : (encoderCount ph s).Latched :=
  ite_locked (encoderFaultTaken_latched (s := s.onPos _) h _)
    (countTaken_locked (s := s.onPos _) h _ _)

theorem referencePulse_latched : (referencePulse s).Latched := by
  unfold referencePulse
  extract_lets before t u
  have ht : t.Latched := h
  have hu : u.Latched := ite_locked (post_locked ht _) ht
  exact homeChange_locked hu _

theorem dwellExpiry_latched : (dwellExpiry s).Latched :=
  ite_locked (dwellExpired_locked h) h

theorem quietTimerExpiry_latched : (quietTimerExpiry s).Latched :=
  ite_locked (ite_locked h (closeCapture_locked h)) h

theorem evaluationCompletion_latched : (evaluationCompletion s).Latched := by
  unfold evaluationCompletion
  split
  · exact h
  · exact post_locked (by exact h) _

theorem stopNSenseChange_latched (level : Level) : (stopNSenseChange level s).Latched := by
  refine ite_locked h ?_
  cases level with
  | low => exact ite_locked (halt_locked (s := s.onGuard _) h _) h
  | high => exact h

theorem readbackTimerExpiry_latched : (readbackTimerExpiry s).Latched :=
  ite_locked (halt_locked (lockoutCause_locked
    (s := s.onGuard fun g => { g with readback := .expired }) h _ _) _) h

theorem lineFilterChange_latched (line : Nat) (level : Level) :
    (lineFilterChange line level s).Latched :=
  ite_locked h (guardChange_locked (homeChange_locked (s := s.onLines _) h _) _)

theorem publishRound_latched (set : SampleSet) : (publishRound set s).Latched := by
  unfold publishRound
  extract_lets before s1 examines s2 s3 bottoms overs trips t
  have h2 : s2.Latched := ite_locked (a := s1.onGuard _) h h
  exact ite_locked (a := t.tickFree) h2 h2

theorem closeSnapshot_latched : (closeSnapshot s).Latched := by
  rcases closeSnapshot_cases s with ⟨-, e⟩ | ⟨-, e | e⟩ <;> rw [e]
  · exact answerSnapshot_locked h
  · exact answerSnapshot_locked h
  · exact h

theorem roundClose_latched (bridges : List Int) : (roundClose bridges s).Latched := by
  have settled : (settleRound (sampleSet s.acq bridges) s).Latched := h
  exact closeSnapshot_latched (ite_locked settled (publishRound_latched h _))

end events

/-! ### Every command -/

section commands

variable {s t : State}

/-- A command whose own effect keeps the lockout keeps it: the due steps before it and the
transmitter after it do. -/
theorem live_latched {f : State → State} (effect : ∀ u : State, u.Latched → (f u).Latched)
    (h : s.Latched) (e : live f s = .next t) : t.Latched := by
  cases e
  exact ite_locked h (transmit_locked (effect _ (takeThrough_locked _ _ h)) true)

theorem liveDue_latched {wanted : Due → Bool} (h : s.Latched) (e : liveDue wanted s = .next t) :
    t.Latched := by
  cases e
  exact ite_locked h (takeThrough_locked _ _ h)

theorem request_latched (r : Request) (h : s.Latched) (e : request r (serve r) s = .next t)
    (unclear : r ≠ .lockoutClear) : t.Latched :=
  live_latched (fun _ hu => offer_locked hu _ fun _ _ hv => serve_locked hv r unclear) h e

/-- A byte finds the receiver as it stood before the due steps, and a buffer that only a due step may
have freed. -/
theorem live_byte_latched {f : State → State} {b : Byte}
    (effect : ∀ u : State, u.Latched → (u.link.buffer = .empty → ∀ n a,
      u.link.receiver = .check n [0x19#8] (some a) → word2 a b ≠ crc [n, 0x19#8]) → (f u).Latched)
    (h : s.Latched) (e : live f s = .next t)
    (other : s.link.buffer = .empty ∨ s.due ≠ [] → ∀ n a,
      s.link.receiver = .check n [0x19#8] (some a) → word2 a b ≠ crc [n, 0x19#8]) : t.Latched := by
  cases e
  obtain ⟨latched, receiver⟩ : (settle s).Locked (· = s.link.receiver) :=
    takeThrough_locked _ _ ⟨h.1, rfl⟩
  refine ite_locked h (transmit_locked ?_ true)
  refine effect _ ⟨latched, trivial⟩ fun buffer n a check => ?_
  refine other ?_ n a (receiver ▸ check)
  by_cases due : s.due = []
  · exact .inl (settle_quiet due ▸ buffer)
  · exact .inr due

end commands

/-- A command may release the lockout (05 R99, R102): it is a LOCKOUT_CLEAR, a power-on reset, or the
byte that completes a good frame of LOCKOUT_CLEAR in a buffer that is empty, or that a due step
frees. -/
def State.mayRelease (c : Instr) (s : State) : Prop :=
  (c = .lockoutClear ∨ c = .powerOnReset ∨ (∃ w, c = .powerOnResetRelease w) ∨
    ∃ n a b, (c = .byteTaken b ∨ c = .frameReceived b) ∧
      s.link.receiver = .check n [0x19#8] (some a) ∧ crc [n, 0x19#8] = a ++ b) ∧
  ((∃ b, c = .byteTaken b ∨ c = .frameReceived b) → s.link.buffer = .empty ∨ s.due ≠ [])

/-- Every other command keeps a latched lockout. -/
theorem exec_latched (c : Instr) {s t : State} (h : s.Latched) (e : exec c s = .next t)
    (kept : ¬s.mayRelease c) : t.Latched := by
  have other {b : Byte} (byte : c = .byteTaken b ∨ c = .frameReceived b)
      (free : s.link.buffer = .empty ∨ s.due ≠ []) (n a : Byte)
      (check : s.link.receiver = .check n [0x19#8] (some a)) : word2 a b ≠ crc [n, 0x19#8] :=
    fun good => kept ⟨.inr (.inr (.inr ⟨n, a, b, byte, check, good.symm⟩)), fun _ => free⟩
  cases c with
  | ping | status | countersRead | setLink | toolReset | setSense | setSegment | getSegment
  | snapshot | tare | shuntCheck | setStroke | getStroke | arm | disarm | abort | lockoutRead
  | mapBegin | mapAdd | mapCommit | mapRead | setClass | getClass | profileRead
  | resultRead | resultSummary | setLines | writeLines | readLines =>
    exact request_latched _ h e nofun
  | lockoutClear => exact absurd ⟨.inl rfl, nofun⟩ kept
  | toolResetActs | deferredReplyPlaced | settleEnd | tripSegment | tripTotal | overrangeEvent
  | bottomRailPair | tareCompletion | shuntWaitEnd | shuntGroupJudged | overtravel =>
    exact liveDue_latched h e
  | mapCommitCompletion => exact live_latched (fun _ => commitEnd_latched) h e
  | frameReceived check =>
    exact live_byte_latched (fun _ => frameReceived_latched) h e (other (.inr rfl))
  | headerLengthError b => exact live_latched (fun _ hu => headerLengthError_latched hu b) h e
  | frameTimeout => exact live_latched (fun _ => frameTimeout_latched) h e
  | discardGapEnd => exact live_latched (fun _ => discardGapEnd_latched) h e
  | frameTransmitted => exact live_latched (fun _ => frameTransmitted_latched) h e
  | watchdogExpiry => exact live_latched (fun _ => watchdogExpiry_latched) h e
  | linkReset => exact live_latched (f := linkReset) (fun _ hu => hu) h e
  | resetNToolReset us =>
    exact live_latched (f := resetPulse us) (fun _ hu => ite_locked (toolReset_locked hu) hu) h e
  | powerOnReset => exact absurd ⟨.inr (.inl rfl), nofun⟩ kept
  | powerOnResetRelease w => exact absurd ⟨.inr (.inr (.inl ⟨w, rfl⟩)), nofun⟩ kept
  | conversionRoundClose bridges =>
    exact live_latched (fun _ hu => roundClose_latched hu bridges) h e
  | encoderCount ph => exact live_latched (fun _ hu => encoderCount_latched hu ph) h e
  | encoderFault tr => exact live_latched (fun _ hu => encoderFault_latched hu tr) h e
  | referencePulse => exact live_latched (fun _ => referencePulse_latched) h e
  | dwellExpiry => exact live_latched (fun _ => dwellExpiry_latched) h e
  | quietTimerExpiry => exact live_latched (fun _ => quietTimerExpiry_latched) h e
  | evaluationCompletion => exact live_latched (fun _ => evaluationCompletion_latched) h e
  | stopNSenseChange level =>
    exact live_latched (fun _ hu => stopNSenseChange_latched hu level) h e
  | readbackTimerExpiry => exact live_latched (fun _ => readbackTimerExpiry_latched) h e
  | lineFilterChange line level =>
    exact live_latched (fun _ hu => lineFilterChange_latched hu line.val level) h e
  | byteTaken b => exact live_byte_latched (fun _ => takeByte_latched) h e (other (.inl rfl))

/-- Settles O58: a command that releases the lockout is none of those that keep it. -/
theorem onlyAClearReleasesALockout : Obligations.OnlyAClearReleasesALockout := by
  intro c s t e latched released
  by_contra kept
  have still := exec_latched c ⟨latched, trivial⟩ e kept
  exact absurd (released.symm.trans still.1) nofun

end Sys2Proof.Machine
end

section
/-! SUPPORT. The map unit's requests (06 R106 to R108, R114, R118 to R120): what their owner does in
each case. -/

namespace Sys2Proof.Machine

/-! ### MAP_BEGIN and MAP_ADD (06 R106, R107) -/

/-- Settles O21: the owner acts on the staging list alone. -/
theorem mapBeginEmptiesTheStagingList : Obligations.MapBeginEmptiesTheStagingList := by
  intro s serving
  exact request_acts (u := s.onMap fun m => { m with staging := [] }) serving rfl rfl rfl
    serving.quiet

/-- A pin record passes where each of its fields lies in its range (06 R104). -/
theorem pinWire_ok_iff (p : PinWire) : p.ok = true ↔ pinInRange p := by
  simp only [PinWire.ok, pinInRange, Bool.and_eq_true, decide_eq_true_eq, and_assoc]

/-- The record checks of a MAP_ADD are the ranges of its records, in the frame's order. -/
theorem pinChecks_agree (rs : List PinWire) :
    ChecksAgree (rs.map fun p => !p.ok) (rs.map pinInRange) := by
  induction rs with
  | nil => trivial
  | cons p rs ih => exact ⟨not_check_iff (pinWire_ok_iff p), fun _ => ih⟩

section serveMapAdd

variable {rs : List PinWire} {s : State} (length : mapAddLengthOk rs = true)

include length

theorem serveMapAdd_field {i : Nat} (bad : firstBadPin rs = some i) :
    serveMapAdd rs s = (s, .reply .field (u8 i)) := by
  simp [serveMapAdd, length, bad]

variable (good : firstBadPin rs = none)

include good

theorem serveMapAdd_full (full : 2048 < s.map.staging.length + rs.length) :
    serveMapAdd rs s = (s, .refusal .full) := by
  simp [serveMapAdd, length, good, full]

theorem serveMapAdd_ok (fits : s.map.staging.length + rs.length ≤ 2048) :
    serveMapAdd rs s =
      (s.onMap fun m => { m with staging := s.map.staging ++ rs.map PinWire.record },
        .okWith (u16 (s.map.staging.length + rs.length))) := by
  simp [serveMapAdd, length, good, fits]

end serveMapAdd

/-- Settles O22, by the first record out of range, and the places left in the staging list. -/
theorem mapAddTakesAFrameWhole : Obligations.MapAddTakesAFrameWhole := by
  intro rs s serving some most
  have length : mapAddLengthOk rs = true := by simp [mapAddLengthOk, some, most]
  have allGood (ranges : ∀ p ∈ rs, pinInRange p) : firstBadPin rs = none :=
    firstFailing_none (pinChecks_agree rs) (List.forall_mem_map.mpr ranges)
  refine ⟨fun i p hp bad before => ?_, fun ranges full => ?_, fun ranges fits => ?_⟩
  · have first : firstBadPin rs = .some i :=
      firstFailing_some (pinChecks_agree rs) (List.getElem?_map .. ▸ congrArg _ hp) bad
        (List.map_take ▸ List.forall_mem_map.mpr before)
    exact request_read serving rfl (serveMapAdd_field length first)
  · exact request_read serving rfl (serveMapAdd_full length (allGood ranges) full)
  · exact request_acts serving rfl (serveMapAdd_ok length (allGood ranges) fits) rfl serving.quiet

/-! ### MAP_READ (06 R114) -/

/-- The field of a flag (10 R178). -/
theorem u8_bit (b : Bool) : u8 (bit b) = [if b then 1#8 else 0#8] := by cases b <;> rfl

theorem serveMapRead_field {first : BitVec 16} {count : Byte} {s : State}
    (out : 2047 < first.toNat ∨ count.toNat = 0 ∨ 40 < count.toNat) :
    serveMapRead first count s = (s, .refusal .field) := by
  simp [serveMapRead, out, or_assoc]

theorem serveMapRead_ok {first : BitVec 16} {count : Byte} {s : State}
    (within : first.toNat ≤ 2047) (some : 1 ≤ count.toNat) (most : count.toNat ≤ 40) :
    serveMapRead first count s = (s, .okWith (mapBody s.map first.toNat count.toNat)) := by
  have inside : ¬(2047 < first.toNat ∨ count.toNat = 0 ∨ 40 < count.toNat) := by omega
  simp [serveMapRead, inside, or_assoc]

/-! ### GET_CLASS and SET_CLASS (06 R117 to R120) -/

/-- A byte is its own field. -/
theorem u8_toNat (b : Byte) : u8 b.toNat = [b] := by simp [u8]

theorem serveGetClass_field {n : Byte} {s : State} (out : 7 < n.toNat) :
    serveGetClass n s = (s, .refusal .field) := by
  simp [serveGetClass, out]

theorem serveGetClass_ok {n : Byte} {s : State} (within : n.toNat ≤ 7) :
    serveGetClass n s = (s, .okWith (classBody n.toNat (s.map.classes.getD n.toNat none))) := by
  simp [serveGetClass, within.not_gt, MapUnit.classAt]

/-- A 16-bit limit is at most 32767, so that the range of each limit is its order to the one before
it (06 R117). -/
theorem limit_within_iff (lo : Int) (w : BitVec 16) :
    (!within lo 32767 w) = true ↔ ¬lo ≤ w.toInt := by
  have most : w.toInt ≤ 32767 := by
    have := w.toInt_lt
    omega
  exact (within_iff ..).trans (not_congr (and_iff_left most))

theorem classFails_agree (w : ClassWire) : ChecksAgree w.fails (classConditions w) :=
  ⟨not_decide_iff _, fun _ => ⟨limit_within_iff .., fun _ => ⟨limit_within_iff .., fun _ =>
    ⟨limit_within_iff .., fun _ => ⟨not_decide_iff _, fun _ => ⟨not_and_decide_iff .., fun _ =>
    ⟨not_and_decide_iff .., fun _ => trivial⟩⟩⟩⟩⟩⟩⟩

/-- A class that is already defined so is left, and the results with it (06 R119). -/
theorem acceptClass_same {n : Nat} {c : WindowClass} {s : State}
    (same : s.map.classes.getD n none = some c) : acceptClass n c s = s := if_pos same

/-- A class that is defined anew is written, and the results become invalid (06 R119). -/
theorem acceptClass_change {n : Nat} {c : WindowClass} {s : State}
    (change : s.map.classes.getD n none ≠ some c) :
    acceptClass n c s = { s with
      map := { s.map with classes := s.map.classes.set n (some c) }
      engine := { s.engine with results := [], summary := none, valid := false } } := if_neg change

section serveSetClass

variable {w : ClassWire} {s : State}

theorem serveSetClass_state (h : s.stroke.state.idle = false) :
    serveSetClass w s = (s, .refusal .state) := by
  simp [serveSetClass, h]

variable (idle : s.stroke.state.idle = true)

include idle

theorem serveSetClass_field {i : Nat} (h : firstFailing w.fails = some i) :
    serveSetClass w s = (s, .reply .field (u8 i)) := by
  simp [serveSetClass, idle, h]

theorem serveSetClass_ok (passes : firstFailing w.fails = none) :
    serveSetClass w s = (acceptClass w.number.toNat w.record s, .ok) := by
  simp [serveSetClass, idle, passes]

end serveSetClass

/-- Settles O24, by the fields of the three requests in their order, and whether a class changes. -/
theorem mapsAndClassesAreReadAndDefined : Obligations.MapsAndClassesAreReadAndDefined := by
  refine ⟨fun s serving => ⟨fun first count => ⟨fun out => ?_, fun within some most => ?_⟩,
    fun n => ⟨fun out => ?_, fun within undefined => ?_, fun c within defined => ?_⟩⟩,
    fun w s serving => ⟨fun busy => ?_, fun i p idle hp fails before => ?_, fun idle holds => ?_⟩⟩
  · exact request_read serving rfl (serveMapRead_field out)
  · rw [← u8_bit]
    exact request_read serving rfl (serveMapRead_ok within some most)
  · exact request_read serving rfl (serveGetClass_field out)
  · have served := serveGetClass_ok (s := s.heard) within
    rw [show s.heard.map = s.map from rfl, undefined] at served
    rw [classBody, u8_toNat] at served
    exact request_read serving rfl served
  · have served := serveGetClass_ok (s := s.heard) within
    rw [show s.heard.map = s.map from rfl, defined] at served
    rw [classBody, u8_toNat] at served
    exact request_read serving rfl served
  · exact request_read serving rfl (serveSetClass_state busy)
  · exact request_read serving rfl (serveSetClass_field (s := s.heard) idle
      (firstFailing_some (classFails_agree w) hp fails before))
  · have passes := firstFailing_none (classFails_agree w) holds
    have served := serveSetClass_ok (s := s.heard) idle passes
    refine ⟨fun same => ?_, fun change => ?_⟩
    · rw [acceptClass_same (c := w.record) (s := s.heard) same] at served
      exact request_read serving rfl served
    · rw [acceptClass_change (c := w.record) (s := s.heard) change] at served
      exact request_acts serving rfl served rfl serving.quiet

end Sys2Proof.Machine
end

section
/-! SUPPORT. MAP_COMMIT and the end of a commit (06 R108 to R113): the six checks in their order,
the map order, and the reply. -/

namespace Sys2Proof.Machine

/-! ### The lowest offending record (06 R109) -/

section firstOffending

variable {offends : List PinRecord → PinRecord → Bool}

/-- A check goes through the first part of a list, and then through the rest with that part before
it. -/
theorem firstOffending_append (earlier : List PinRecord) (n : Nat) (l r : List PinRecord) :
    firstOffending offends earlier n (l ++ r) =
      (firstOffending offends earlier n l).or
        (firstOffending offends (l.reverse ++ earlier) (n + l.length) r) := by
  induction l generalizing earlier n with
  | nil => rfl
  | cons p l ih =>
    cases h : offends earlier p with
    | true => simp [firstOffending, h]
    | false => simp [firstOffending, h, ih, Nat.add_right_comm, Nat.add_assoc]

/-- A list passes with one more record where it passes and the record does not offend. -/
theorem firstOffending_concat_none (l : List PinRecord) (p : PinRecord) :
    firstOffending offends [] 0 (l ++ [p]) = none ↔
      firstOffending offends [] 0 l = none ∧ offends l.reverse p = false := by
  simp [firstOffending_append, firstOffending]

/-- A record that offends after a part of the list that passes is the lowest. -/
theorem firstOffending_at {l : List PinRecord} {i : Nat} {p : PinRecord} (hp : l[i]? = some p)
    (before : firstOffending offends [] 0 (l.take i) = none)
    (offence : offends (l.take i).reverse p = true) : firstOffending offends [] 0 l = some i := by
  obtain ⟨hi, rfl⟩ := List.getElem?_eq_some_iff.mp hp
  have split : l = l.take i ++ l[i] :: l.drop (i + 1) := by simp
  rw [split, firstOffending_append, before]
  simp [firstOffending, offence, hi.le]

end firstOffending

/-! ### What passes each check (06 R109) -/

theorem dupPin_none_iff (l : List PinRecord) :
    firstOffending offendsDupPin [] 0 l = none ↔ (l.map PinRecord.pin).Nodup := by
  induction l using List.reverseRecOn with
  | nil => simp [firstOffending]
  | append_singleton l p ih =>
    rw [firstOffending_concat_none, ih]
    simp [offendsDupPin, List.nodup_append]

theorem offendsNoClass_iff (defined : List Bool) (earlier : List PinRecord) (p : PinRecord) :
    offendsNoClass defined earlier p = true ↔ defined[p.cls]? ≠ some true := by
  rw [offendsNoClass, List.getD_eq_getElem?_getD]
  cases defined[p.cls]? <;> simp

theorem noClass_none_iff (defined : List Bool) (l : List PinRecord) :
    firstOffending (offendsNoClass defined) [] 0 l = none ↔
      ∀ q ∈ l, defined[q.cls]? = some true := by
  induction l using List.reverseRecOn with
  | nil => simp [firstOffending]
  | append_singleton l p ih =>
    rw [firstOffending_concat_none, ih]
    rw [← Bool.not_eq_true, offendsNoClass_iff]
    simp [or_imp, forall_and]

/-- The records of each cohort name one class. -/
def OneClassPerCohort (l : List PinRecord) : Prop :=
  ∀ a ∈ l, ∀ b ∈ l, a.segment = b.segment → a.engage = b.engage → a.cls = b.cls

theorem mixed_none_iff (l : List PinRecord) :
    firstOffending offendsMixed [] 0 l = none ↔ OneClassPerCohort l := by
  induction l using List.reverseRecOn with
  | nil => simp [firstOffending, OneClassPerCohort]
  | append_singleton l p ih =>
    rw [firstOffending_concat_none, ih]
    have last : offendsMixed l.reverse p = false ↔
        ∀ q ∈ l, q.segment = p.segment → q.engage = p.engage → q.cls = p.cls := by
      simp [offendsMixed, PinRecord.sameCohort]
    rw [last]
    unfold OneClassPerCohort
    simp only [List.mem_append, List.mem_singleton]
    grind

/-- A limit on how many records share a key: none is reached by a further record where no key's
records pass it. -/
theorem crowded_none_iff {κ : Type} [DecidableEq κ] (key : PinRecord → κ) (limit : Nat)
    (l : List PinRecord) :
    firstOffending (fun earlier p => limit ≤ earlier.countP fun q => key q = key p) [] 0 l = none ↔
      ∀ a, (l.filter fun q => key q = a).length ≤ limit := by
  induction l using List.reverseRecOn with
  | nil => simp [firstOffending]
  | append_singleton l p ih =>
    rw [firstOffending_concat_none, ih]
    simp only [← List.countP_eq_length_filter, List.countP_append, List.countP_reverse,
      List.countP_singleton, decide_eq_false_iff_not, decide_eq_true_eq, not_le]
    refine ⟨fun ⟨within, room⟩ a => ?_, fun within => ⟨fun a => ?_, ?_⟩⟩
    · have := within a
      split
      · next same => subst same; omega
      · omega
    · exact (Nat.le_add_right _ _).trans (within a)
    · have := within (key p)
      rw [if_pos rfl] at this
      omega

theorem sameCohort_eq (p q : PinRecord) :
    p.sameCohort q = decide (p.segment = q.segment ∧ p.engage = q.engage) := by
  simp [PinRecord.sameCohort, Bool.beq_eq_decide_eq]

theorem cohortSize_none_iff (l : List PinRecord) :
    firstOffending offendsCohortSize [] 0 l = none ↔
      ∀ a b : Nat, (l.filter fun q => q.segment = a ∧ q.engage = b).length ≤ 32 := by
  have check : offendsCohortSize = fun earlier p =>
      decide (32 ≤ earlier.countP fun q => (q.segment, q.engage) = (p.segment, p.engage)) := by
    funext earlier p
    simp [offendsCohortSize, sameCohort_eq]
  rw [check, crowded_none_iff (fun q => (q.segment, q.engage)), Prod.forall]
  simp only [Prod.mk.injEq]

theorem segLoad_none_iff (l : List PinRecord) :
    firstOffending offendsSegLoad [] 0 l = none ↔
      ∀ a : Nat, (l.filter fun q => q.segment = a).length ≤ 64 := by
  have check : offendsSegLoad = fun earlier p =>
      decide (64 ≤ earlier.countP fun q => q.segment = p.segment) := by
    funext earlier p
    simp [offendsSegLoad, Bool.beq_eq_decide_eq]
  rw [check, crowded_none_iff PinRecord.segment]

/-! ### The six checks in their order (06 R109) -/

theorem refusal_empty {c : Commit} (empty : c.list = []) : c.refusal = some (.empty, 0) := by
  simp [Commit.refusal, empty]

/-- Past the first check, the status and index are those of the first of the others that finds an
offending record. -/
theorem refusal_eq {c : Commit} (filled : c.list ≠ []) :
    c.refusal =
      (((((firstOffending offendsDupPin [] 0 c.list).map (Status.dupPin, ·)).or
        ((firstOffending (offendsNoClass c.defined) [] 0 c.list).map (Status.noClass, ·))).or
        ((firstOffending offendsMixed [] 0 c.list).map (Status.mixedCohort, ·))).or
        ((firstOffending offendsCohortSize [] 0 c.list).map (Status.cohortSize, ·))).or
        ((firstOffending offendsSegLoad [] 0 c.list).map (Status.segLoad, ·)) := by
  unfold Commit.refusal
  rw [if_neg (by simpa using filled)]
  cases firstOffending offendsDupPin [] 0 c.list with
  | some i => rfl
  | none =>
  cases firstOffending (offendsNoClass c.defined) [] 0 c.list with
  | some i => rfl
  | none =>
  cases firstOffending offendsMixed [] 0 c.list with
  | some i => rfl
  | none =>
  cases firstOffending offendsCohortSize [] 0 c.list with
  | some i => rfl
  | none => rfl

/-- A commit is accepted where its list has the six properties. -/
theorem refusal_none_iff (c : Commit) : c.refusal = none ↔ commitPasses c := by
  by_cases empty : c.list = []
  · simp [refusal_empty empty, commitPasses, empty]
  · simp only [refusal_eq empty, Option.or_eq_none_iff, Option.map_eq_none_iff, dupPin_none_iff,
      noClass_none_iff, mixed_none_iff, cohortSize_none_iff, segLoad_none_iff, and_assoc]
    exact (and_iff_right empty).symm

section refusal

variable {c : Commit} {i : Nat} {p : PinRecord} (filled : c.list ≠ []) (hp : c.list[i]? = some p)

include filled hp

theorem refusal_dupPin (repeated : ∃ q ∈ c.list.take i, q.pin = p.pin)
    (before : ((c.list.take i).map PinRecord.pin).Nodup) : c.refusal = some (.dupPin, i) := by
  have first := firstOffending_at hp ((dupPin_none_iff _).mpr before)
    (by simpa [offendsDupPin] using repeated)
  simp [refusal_eq filled, first]

variable (pins : (c.list.map PinRecord.pin).Nodup)

include pins

theorem refusal_noClass (undefined : c.defined[p.cls]? ≠ some true)
    (before : ∀ q ∈ c.list.take i, c.defined[q.cls]? = some true) :
    c.refusal = some (.noClass, i) := by
  have first := firstOffending_at hp ((noClass_none_iff c.defined _).mpr before)
    ((offendsNoClass_iff ..).mpr undefined)
  simp [refusal_eq filled, (dupPin_none_iff _).mpr pins, first]

variable (classes : ∀ q ∈ c.list, c.defined[q.cls]? = some true)

include classes

theorem refusal_mixed
    (mixed : ∃ q ∈ c.list.take i, q.segment = p.segment ∧ q.engage = p.engage ∧ q.cls ≠ p.cls)
    (before : OneClassPerCohort (c.list.take i)) : c.refusal = some (.mixedCohort, i) := by
  have first := firstOffending_at hp ((mixed_none_iff _).mpr before)
    (by simpa [offendsMixed, PinRecord.sameCohort, and_assoc] using mixed)
  simp [refusal_eq filled, (dupPin_none_iff _).mpr pins, (noClass_none_iff _ _).mpr classes, first]

variable (uniform : OneClassPerCohort c.list)

include uniform

theorem refusal_cohortSize
    (full :
      ((c.list.take i).filter fun q => q.segment = p.segment ∧ q.engage = p.engage).length = 32)
    (before : ∀ a b : Nat,
      ((c.list.take i).filter fun q => q.segment = a ∧ q.engage = b).length ≤ 32) :
    c.refusal = some (.cohortSize, i) := by
  have first := firstOffending_at hp ((cohortSize_none_iff _).mpr before) (by
    rw [← List.countP_eq_length_filter] at full
    simp [-Bool.decide_and, offendsCohortSize, sameCohort_eq, full])
  simp [refusal_eq filled, (dupPin_none_iff _).mpr pins, (noClass_none_iff _ _).mpr classes,
    (mixed_none_iff _).mpr uniform, first]

theorem refusal_segLoad
    (cohorts : ∀ a b : Nat, (c.list.filter fun q => q.segment = a ∧ q.engage = b).length ≤ 32)
    (full : ((c.list.take i).filter fun q => q.segment = p.segment).length = 64)
    (before : ∀ a : Nat, ((c.list.take i).filter fun q => q.segment = a).length ≤ 64) :
    c.refusal = some (.segLoad, i) := by
  have first := firstOffending_at hp ((segLoad_none_iff _).mpr before) (by
    simp [offendsSegLoad, Bool.beq_eq_decide_eq, List.countP_eq_length_filter, full])
  simp [refusal_eq filled, (dupPin_none_iff _).mpr pins, (noClass_none_iff _ _).mpr classes,
    (mixed_none_iff _).mpr uniform, (cohortSize_none_iff _).mpr cohorts, first]

end refusal

/-! ### Map order (06 R111) -/

/-- A record does not stand before another where the other may precede it in map order. -/
theorem not_before_iff (p q : PinRecord) : q.before p = false ↔ mapOrdered p q := by
  simp only [PinRecord.before, mapOrdered, Bool.or_eq_false_iff, Bool.and_eq_false_iff,
    decide_eq_false_iff_not, beq_eq_false_iff_ne]
  omega

theorem insertPin_perm (p : PinRecord) (l : List PinRecord) : (insertPin p l).Perm (p :: l) := by
  induction l with
  | nil => rfl
  | cons q l ih =>
    unfold insertPin
    split
    · exact (ih.cons q).trans (.swap p q l)
    · rfl

theorem sortPins_perm (l : List PinRecord) : (sortPins l).Perm l := by
  induction l with
  | nil => rfl
  | cons p l ih => exact (insertPin_perm p _).trans (ih.cons p)

theorem mapOrdered_trans {p q r : PinRecord} (h : mapOrdered p q) (k : mapOrdered q r) :
    mapOrdered p r := by
  unfold mapOrdered at *
  omega

theorem insertPin_ordered {p : PinRecord} {l : List PinRecord} (h : l.Pairwise mapOrdered) :
    (insertPin p l).Pairwise mapOrdered := by
  induction l with
  | nil => simp [insertPin]
  | cons q l ih =>
    obtain ⟨first, rest⟩ := List.pairwise_cons.mp h
    unfold insertPin
    split
    · next before =>
      refine List.pairwise_cons.mpr ⟨fun r hr => ?_, ih rest⟩
      rcases List.mem_cons.mp ((insertPin_perm p l).mem_iff.mp hr) with rfl | hr
      · unfold mapOrdered
        simp only [PinRecord.before, Bool.or_eq_true, Bool.and_eq_true, decide_eq_true_eq,
          beq_iff_eq] at before
        omega
      · exact first r hr
    · next unbefore =>
      have ordered : mapOrdered p q := (not_before_iff p q).mp (by simpa using unbefore)
      refine List.pairwise_cons.mpr ⟨fun r hr => ?_, h⟩
      rcases List.mem_cons.mp hr with rfl | hr
      · exact ordered
      · exact mapOrdered_trans ordered (first r hr)

theorem sortPins_ordered (l : List PinRecord) : (sortPins l).Pairwise mapOrdered := by
  induction l with
  | nil => exact .nil
  | cons p l ih => exact insertPin_ordered ih

/-! ### The reply of a commit (06 R110 to R112) -/

/-- The link after the end of a commit: its reply is sent or queued, or waits for a place, while
MAP_COMMIT holds the buffer. -/
def Link.commitAnswered (status : Status) (detail : List Byte) (l : Link) : Link :=
  let r : Reply := { kind := 0xA2#8, status := status, detail := detail, resets := false }
  if l.buffer ≠ .mapCommit then l
  else if l.replies.length < 4 then ({ l with buffer := .empty } : Link).replied r
  else { l with buffer := .waiting (.made r) }

/-- With no place for it a reply waits in the buffer (10 R182). -/
theorem place_full {w : Waiting} {s : State} (full : ¬s.link.replies.length < 4) :
    place w s = setBuffer (.waiting w) s := by
  simp [place, Link.replyRoom, full]

theorem transmit_commitReply {status : Status} {detail : List Byte} {u : State} (due : u.due = [])
    (fed : u.link.fed) :
    transmit true (commitReply status detail u) =
      { u with link := u.link.commitAnswered status detail } := by
  by_cases held : u.link.buffer = .mapCommit
  · simp only [commitReply, Link.commitAnswered, if_pos held, not_not.mpr held, if_false]
    by_cases room : u.link.replies.length < 4
    · rw [place_made room rfl, if_pos room]
      exact transmit_answered (l := { u.link with buffer := .empty }) due fed rfl
    · have busy : u.link.sending.isSome = true := by
        cases h : u.link.sending with
        | some f => rfl
        | none => simp [fed h] at room
      rw [place_full room, transmit_busy (by exact busy), if_neg room]
      rfl
  · simp only [commitReply, Link.commitAnswered, held, ne_eq, not_false_eq_true, if_true]
    exact transmit_fed fed

section commitEnd

variable {s : State} {c : Commit} (ready : s.Ready) (hc : s.map.commit = some c)

include ready hc

/-- Where a commit cannot be in progress its end changes nothing (06 R113; logs 4 and 38). -/
theorem exec_commitEnd_busy (busy : s.stroke.state.idle = false) :
    exec .mapCommitCompletion s = .next s := by
  refine (live_ready ready _).trans (congrArg Host.Outcome.next ?_)
  simp only [commitEnd, hc, busy]
  exact transmit_fed ready.fed

variable (idle : s.stroke.state.idle = true)

include idle

/-- The end of a commit closes it and answers it. -/
theorem exec_commitEnd :
    exec .mapCommitCompletion s = .next { closeCommit c s with
      link := s.link.commitAnswered c.answer.1 c.answer.2 } := by
  have link : (closeCommit c s).link = s.link := by rw [(closeCommit_eq c s).2]
  have due : (closeCommit c s).due = s.due := by rw [(closeCommit_eq c s).2]
  refine (live_ready ready _).trans (congrArg Host.Outcome.next ?_)
  simp only [commitEnd, hc, idle, if_true]
  rw [transmit_commitReply (due.trans ready.quiet) (link ▸ ready.fed), link]

theorem exec_commitEnd_accepted (passes : c.refusal = none) :
    exec .mapCommitCompletion s = .next { s with
      map := { s.map with active := sortPins c.list, valid := true, staging := [], commit := none }
      engine := { s.engine with
        work := WorkTable.empty, results := [], summary := none, valid := false }
      link := s.link.commitAnswered .ok (u16 c.list.length) } := by
  rw [exec_commitEnd ready hc idle, closeCommit, Commit.answer, passes]
  rfl

theorem exec_commitEnd_refused {status : Status} {index : Nat}
    (refused : c.refusal = some (status, index)) :
    exec .mapCommitCompletion s = .next { s with
      map := { s.map with commit := none }
      link := s.link.commitAnswered status (u16 index) } := by
  rw [exec_commitEnd ready hc idle, closeCommit, Commit.answer, refused]
  rfl

end commitEnd

/-! ### MAP_COMMIT (06 R108) -/

section serveMapCommit

variable {s : State}

theorem serveMapCommit_state (h : s.stroke.state.idle = false) :
    serveMapCommit s = (s, .refusal .state) := by
  simp [serveMapCommit, h]

variable (idle : s.stroke.state.idle = true)

include idle

theorem serveMapCommit_busy (running : s.map.commit.isSome = true) :
    serveMapCommit s = (s, .refusal .busy) := by
  simp [serveMapCommit, idle, running]

theorem serveMapCommit_taken (free : s.map.commit = none) :
    serveMapCommit s =
      (s.onMap fun m => { m with commit := some m.takeCommit }, .mapCommit) := by
  simp [serveMapCommit, idle, free]

/-- A commit that is taken holds the buffer, with no reply yet. -/
theorem exec_mapCommit_taken (serving : s.Serving) (free : s.map.commit = none) :
    exec .mapCommit s = .next { s with
      map := { s.map with commit := some s.map.takeCommit }
      link := { s.link.heard with buffer := .mapCommit } } := by
  have served := serveMapCommit_taken (s := s.heard) idle free
  refine (live_ready serving.toReady _).trans (congrArg Host.Outcome.next ?_)
  have offered : offer Request.mapCommit.kind serveMapCommit s = { s with
      map := { s.map with commit := some s.map.takeCommit }
      link := { s.link.heard with buffer := .mapCommit } } := by
    have heard : reloadWatchdog s = s.heard := rfl
    have empty : s.heard.link.buffer = .empty := serving.buffer
    simp only [offer, heard, empty, served]
    rfl
  rw [offered]
  exact transmit_fed serving.fed

end serveMapCommit

/-- Settles O23: what is taken, how it ends, and the first check that a refused list fails. -/
theorem commitInstallsTheSortedMap : Obligations.CommitInstallsTheSortedMap := by
  refine ⟨fun s serving => ⟨fun busy => ?_, fun idle running => ?_, fun idle free => ?_⟩,
    fun c s ready hc =>
      ⟨fun busy => ?_, fun idle passes => ?_, fun status index idle refused => ?_⟩,
    fun c empty => refusal_empty empty, fun c filled => ⟨?_, ?_, ?_, ?_, ?_, ?_⟩⟩
  · exact request_read serving rfl (serveMapCommit_state busy)
  · exact request_read serving rfl (serveMapCommit_busy (s := s.heard) idle running)
  · exact exec_mapCommit_taken idle serving free
  · exact exec_commitEnd_busy ready hc busy
  · exact ⟨sortPins c.list, sortPins_perm c.list, sortPins_ordered c.list,
      exec_commitEnd_accepted ready hc idle ((refusal_none_iff c).mpr passes)⟩
  · exact exec_commitEnd_refused ready hc idle refused
  · exact fun i p hp => refusal_dupPin filled hp
  · exact fun i p pins hp => refusal_noClass filled hp pins
  · exact fun i p pins classes hp => refusal_mixed filled hp pins classes
  · exact fun i p pins classes uniform hp => refusal_cohortSize filled hp pins classes uniform
  · exact fun i p pins classes uniform cohorts hp =>
      refusal_segLoad filled hp pins classes uniform cohorts
  · exact (refusal_none_iff c).symm

end Sys2Proof.Machine
end

section
/-! SUPPORT. The engine's arithmetic (06 R115, 07 R129 to R137): the cohorts of a sorted map, the
runs of cohorts that merge into clusters, and the windows, baseline and share of a cluster. -/

namespace Sys2Proof.Machine

/-! ### Cohorts (06 R115, 07 R129) -/

/-- One cohort stands before another in map order. -/
def Cohort.Before (c d : Cohort) : Prop :=
  c.segment < d.segment ∨ (c.segment = d.segment ∧ c.engage < d.engage)

/-- The cohort a record opens. -/
def Cohort.opened (m : MapUnit) (p : PinRecord) : Cohort :=
  { segment := p.segment, engage := p.engage, cls := m.classOf p, pins := 1 }

/-- A record joins the cohort at the front, or opens one before it. -/
theorem cohortsOf_cons (m : MapUnit) (p : PinRecord) (rest : List PinRecord) :
    (∃ c cs, cohortsOf m rest = c :: cs ∧ (c.segment = p.segment ∧ c.engage = p.engage) ∧
      cohortsOf m (p :: rest) = { c with pins := c.pins + 1 } :: cs) ∨
    ((∀ c cs, cohortsOf m rest = c :: cs → ¬(c.segment = p.segment ∧ c.engage = p.engage)) ∧
      cohortsOf m (p :: rest) = Cohort.opened m p :: cohortsOf m rest) := by
  rw [cohortsOf]
  cases cohortsOf m rest with
  | nil => exact .inr ⟨nofun, rfl⟩
  | cons c cs =>
    by_cases same : c.segment = p.segment ∧ c.engage = p.engage
    · exact .inl ⟨c, cs, rfl, same, if_pos same⟩
    · exact .inr ⟨fun d ds e => (List.cons.inj e).1 ▸ same, if_neg same⟩

/-- The cohorts `cs` hold the records `l`, each under its segment and engage station, with the class
of one of them, and stand in map order. -/
structure FormCohorts (m : MapUnit) (l : List PinRecord) (cs : List Cohort) : Prop where
  counted : ∀ c ∈ cs,
    c.pins = (l.filter fun p => p.segment = c.segment ∧ p.engage = c.engage).length
  drawn : ∀ c ∈ cs, ∃ p ∈ l, (p.segment = c.segment ∧ p.engage = c.engage) ∧ c.cls = m.classOf p
  covered : ∀ p ∈ l, ∃ c ∈ cs, c.segment = p.segment ∧ c.engage = p.engage
  ascending : cs.Pairwise Cohort.Before

namespace FormCohorts

variable {m : MapUnit} {p : PinRecord} {l : List PinRecord} {c : Cohort} {cs : List Cohort}

/-- A cohort has a pin. -/
theorem pins_pos (h : FormCohorts m l cs) (hc : c ∈ cs) : 1 ≤ c.pins := by
  obtain ⟨p, hp, key, -⟩ := h.drawn c hc
  rw [h.counted c hc]
  exact List.length_pos_of_mem (List.mem_filter.mpr ⟨hp, decide_eq_true key⟩)

/-- A record of the first cohort joins it. -/
theorem join (h : FormCohorts m l (c :: cs)) (same : c.segment = p.segment ∧ c.engage = p.engage) :
    FormCohorts m (p :: l) ({ c with pins := c.pins + 1 } :: cs) := by
  obtain ⟨counted, drawn, covered, ascending⟩ := h
  rw [List.forall_mem_cons] at counted drawn
  obtain ⟨first, later⟩ := List.pairwise_cons.mp ascending
  refine ⟨List.forall_mem_cons.mpr ⟨?_, fun d hd => ?_⟩,
    List.forall_mem_cons.mpr ⟨?_, fun d hd => ?_⟩,
    List.forall_mem_cons.mpr ⟨⟨_, List.mem_cons_self, same⟩, fun q hq => ?_⟩,
    List.pairwise_cons.mpr ⟨first, later⟩⟩
  · rw [List.filter_cons_of_pos (by simp [same])]
    exact congrArg (· + 1) counted.1
  · have apart : ¬(p.segment = d.segment ∧ p.engage = d.engage) := by
      have := first d hd
      unfold Cohort.Before at this
      omega
    rw [List.filter_cons_of_neg (by simpa using apart)]
    exact counted.2 d hd
  · obtain ⟨q, hq, key⟩ := drawn.1
    exact ⟨q, List.mem_cons_of_mem _ hq, key⟩
  · obtain ⟨q, hq, key⟩ := drawn.2 d hd
    exact ⟨q, List.mem_cons_of_mem _ hq, key⟩
  · obtain ⟨d, hd, key⟩ := covered q hq
    rcases List.mem_cons.mp hd with rfl | hd
    · exact ⟨_, List.mem_cons_self, key⟩
    · exact ⟨d, List.mem_cons_of_mem _ hd, key⟩

/-- A record that stands before every cohort opens one. -/
theorem cons (h : FormCohorts m l cs) (first : ∀ d ∈ cs, (Cohort.opened m p).Before d) :
    FormCohorts m (p :: l) (Cohort.opened m p :: cs) := by
  have apart (d : Cohort) (hd : d ∈ cs) : ¬(p.segment = d.segment ∧ p.engage = d.engage) := by
    have before : p.segment < d.segment ∨ (p.segment = d.segment ∧ p.engage < d.engage) :=
      first d hd
    omega
  refine ⟨List.forall_mem_cons.mpr ⟨?_, fun d hd => ?_⟩, List.forall_mem_cons.mpr
    ⟨⟨p, List.mem_cons_self, ⟨rfl, rfl⟩, rfl⟩, fun d hd => ?_⟩,
    List.forall_mem_cons.mpr ⟨⟨_, List.mem_cons_self, rfl, rfl⟩, fun q hq => ?_⟩,
    List.pairwise_cons.mpr ⟨first, h.ascending⟩⟩
  · have alone : ∀ q ∈ l, ¬decide (q.segment = p.segment ∧ q.engage = p.engage) = true := by
      intro q hq same
      obtain ⟨segment, engage⟩ := of_decide_eq_true same
      obtain ⟨d, hd, key⟩ := h.covered q hq
      exact apart d hd ⟨segment.symm.trans key.1.symm, engage.symm.trans key.2.symm⟩
    rw [List.filter_cons_of_pos (by simp [Cohort.opened])]
    exact congrArg (fun k => (p :: k).length) (List.filter_eq_nil_iff.mpr alone).symm
  · rw [List.filter_cons_of_neg (by simpa using apart d hd)]
    exact h.counted d hd
  · obtain ⟨q, hq, key⟩ := h.drawn d hd
    exact ⟨q, List.mem_cons_of_mem _ hq, key⟩
  · obtain ⟨d, hd, key⟩ := h.covered q hq
    exact ⟨d, List.mem_cons_of_mem _ hd, key⟩

end FormCohorts

/-- The cohorts of a sorted list of records. -/
theorem cohortsOf_form (m : MapUnit) {l : List PinRecord} (sorted : l.Pairwise mapOrdered) :
    FormCohorts m l (cohortsOf m l) := by
  induction l with
  | nil => exact ⟨nofun, nofun, nofun, .nil⟩
  | cons p l ih =>
    obtain ⟨least, sorted⟩ := List.pairwise_cons.mp sorted
    have h := ih sorted
    rcases cohortsOf_cons m p l with ⟨c, cs, front, same, e⟩ | ⟨other, e⟩
    · rw [e]
      exact (front ▸ h).join same
    · rw [e]
      refine h.cons fun d hd => ?_
      have least (c : Cohort) (hc : c ∈ cohortsOf m l) : p.segment < c.segment ∨
          (p.segment = c.segment ∧ p.engage ≤ c.engage) := by
        obtain ⟨q, hq, ⟨segment, engage⟩, -⟩ := h.drawn c hc
        have := least q hq
        unfold mapOrdered at this
        omega
      cases front : cohortsOf m l with
      | nil => simp [front] at hd
      | cons c cs =>
        have strict : (Cohort.opened m p).Before c := by
          have := least c (by simp [front])
          have := other c cs front
          show p.segment < c.segment ∨ (p.segment = c.segment ∧ p.engage < c.engage)
          omega
        have ascending := h.ascending
        rw [front] at hd ascending
        rcases List.mem_cons.mp hd with rfl | hd
        · exact strict
        · have := (List.pairwise_cons.mp ascending).1 d hd
          unfold Cohort.Before at *
          omega

/-- With one class per cohort, a cohort has the class of each of its records (07 R129). -/
theorem FormCohorts.cls_eq {m : MapUnit} {l : List PinRecord} {cs : List Cohort} {c : Cohort}
    {p : PinRecord} {w : WindowClass} (h : FormCohorts m l cs) (uniform : OneClassPerCohort l)
    (hc : c ∈ cs) (hp : p ∈ l) (key : c.segment = p.segment ∧ c.engage = p.engage)
    (defined : m.classes.getD p.cls none = some w) : c.cls = w := by
  obtain ⟨q, hq, ⟨segment, engage⟩, e⟩ := h.drawn c hc
  have same : q.cls = p.cls := uniform q hq p hp (segment.trans key.1) (engage.trans key.2)
  rw [e, MapUnit.classOf, MapUnit.classAt, same, defined]
  rfl

/-! ### Clusters (07 R132, R133) -/

/-- The cluster `k` is what the cohorts `g`, taken in their order, merge into. -/
structure FormCluster (g : List Cohort) (k : Cluster) : Prop where
  opening : ∃ c rest, g = c :: rest ∧ k.segment = c.segment ∧ k.baseLo = baseStart c.engage c.cls ∧
    k.baseHi = baseEnd c.engage c.cls ∧ k.peakLo = peakStart c.engage c.cls
  within : ∀ c ∈ g, c.segment = k.segment ∧ peakEnd c.engage c.cls ≤ k.peakHi
  reached : ∃ c ∈ g, k.peakHi = peakEnd c.engage c.cls
  size : k.size = (g.map Cohort.pins).sum
  members : ∀ e, e ∈ k.members ↔ ∃ c ∈ g, c.engage = e
  joined : ∀ a c b, g = a ++ c :: b → a ≠ [] →
    ∃ d ∈ a, baseStart c.engage c.cls ≤ peakEnd d.engage d.cls

/-- A cluster takes a cohort of its segment that starts by its peak-window end (07 R132). -/
theorem Cluster.admits_iff (k : Cluster) (c : Cohort) :
    k.admits c = true ↔ k.segment = c.segment ∧ baseStart c.engage c.cls ≤ k.peakHi := by
  simp [Cluster.admits]

theorem FormCluster.opened (c : Cohort) : FormCluster [c] (Cluster.opened c) where
  opening := ⟨c, [], rfl, rfl, rfl, rfl, rfl⟩
  within d hd := by rw [List.mem_singleton.mp hd]; exact ⟨rfl, le_rfl⟩
  reached := ⟨c, List.mem_singleton_self c, rfl⟩
  size := by simp [Cluster.opened]
  members e := by simp [Cluster.opened, eq_comm]
  joined a d b e ne := by
    obtain ⟨x, a, rfl⟩ := List.exists_cons_of_ne_nil ne
    simp at e

theorem FormCluster.join {g : List Cohort} {k : Cluster} {c : Cohort} (h : FormCluster g k)
    (admitted : k.admits c = true) : FormCluster (g ++ [c]) (k.join c) := by
  obtain ⟨segment, starts⟩ := (Cluster.admits_iff k c).mp admitted
  obtain ⟨last, hlast, reached⟩ := h.reached
  refine ⟨?opening, ?within, ?reached, ?size, fun e => ?members, fun a d b e ne => ?joined⟩
  case opening =>
    obtain ⟨first, rest, rfl, opening⟩ := h.opening
    exact ⟨first, rest ++ [c], rfl, opening⟩
  case within =>
    refine List.forall_mem_append.mpr ⟨fun d hd => ?_, List.forall_mem_singleton.mpr ?_⟩
    · obtain ⟨same, before⟩ := h.within d hd
      exact ⟨same, before.trans (le_max_left _ _)⟩
    · exact ⟨segment.symm, le_max_right _ _⟩
  case reached =>
    rcases le_total (peakEnd c.engage c.cls) k.peakHi with e | e
    · exact ⟨last, List.mem_append_left _ hlast, (max_eq_left e).trans reached⟩
    · exact ⟨c, by simp, max_eq_right e⟩
  case size => simp [Cluster.join, h.size]
  case members =>
    simp only [Cluster.join, List.mem_cons, h.members, List.mem_append, List.not_mem_nil, or_false,
      or_and_right, exists_or, exists_eq_left]
    rw [or_comm, eq_comm]
  case joined =>
    rcases List.eq_nil_or_concat b with rfl | ⟨b, x, rfl⟩
    · obtain ⟨rfl, e⟩ := List.append_inj' e rfl
      obtain rfl : c = d := by simpa using e
      exact ⟨last, hlast, reached ▸ starts⟩
    · refine h.joined a d b ?_ ne
      have e : g ++ [c] = (a ++ d :: b) ++ [x] := by simpa using e
      exact (List.append_inj' e rfl).1

/-- The cohorts of each cluster of `clustersFrom`; `held` are those of the current cluster. -/
def groupsFrom (current : Cluster) (held : List Cohort) : List Cohort → List (List Cohort)
  | [] => [held]
  | c :: rest =>
    if current.admits c then groupsFrom (current.join c) (held ++ [c]) rest
    else held :: groupsFrom (Cluster.opened c) [c] rest

/-- The cohorts of each cluster of `clustersOf`. -/
def groupsOf : List Cohort → List (List Cohort)
  | [] => []
  | c :: rest => groupsFrom (Cluster.opened c) [c] rest

theorem groupsFrom_flatten (k : Cluster) (g cs : List Cohort) :
    (groupsFrom k g cs).flatten = g ++ cs := by
  induction cs generalizing k g with
  | nil => simp [groupsFrom]
  | cons c cs ih =>
    rw [groupsFrom]
    split <;> simp [ih]

theorem groupsFrom_length (k : Cluster) (g cs : List Cohort) :
    (groupsFrom k g cs).length = (clustersFrom k cs).length := by
  induction cs generalizing k g with
  | nil => rfl
  | cons c cs ih =>
    rw [groupsFrom, clustersFrom]
    split <;> simp [ih]

/-- The first group begins with the cohorts held. -/
theorem groupsFrom_front (k : Cluster) (g cs : List Cohort) :
    ∃ t more, groupsFrom k g cs = (g ++ t) :: more := by
  induction cs generalizing k g with
  | nil => exact ⟨[], [], by simp [groupsFrom]⟩
  | cons c cs ih =>
    rw [groupsFrom]
    split
    · obtain ⟨t, more, e⟩ := ih (k.join c) (g ++ [c])
      exact ⟨c :: t, more, by simp [e]⟩
    · exact ⟨[], _, congrArg (· :: _) (List.append_nil g).symm⟩

/-- The first cohort of the group after a cluster is one the cluster does not take. -/
def Separated (k : Cluster) (next : Option (List Cohort)) : Prop :=
  ∀ c rest, next = some (c :: rest) → k.admits c = false

/-- Each cluster is formed by its group, and the next group begins with a cohort it does not
take. -/
theorem groupsFrom_form {k : Cluster} {g : List Cohort} (cs : List Cohort) (h : FormCluster g k)
    {n : Nat} {g' : List Cohort} {k' : Cluster} (hg : (groupsFrom k g cs)[n]? = some g')
    (hk : (clustersFrom k cs)[n]? = some k') :
    FormCluster g' k' ∧ Separated k' (groupsFrom k g cs)[n + 1]? := by
  induction cs generalizing k g n with
  | nil =>
    cases n with
    | zero =>
      obtain rfl : g = g' := by simpa [groupsFrom] using hg
      obtain rfl : k = k' := by simpa [clustersFrom] using hk
      exact ⟨h, nofun⟩
    | succ n => simp [groupsFrom] at hg
  | cons c cs ih =>
    rw [groupsFrom] at hg ⊢
    rw [clustersFrom] at hk
    by_cases admitted : k.admits c = true
    · rw [if_pos admitted] at hg hk ⊢
      exact ih (h.join admitted) hg hk
    · rw [if_neg admitted] at hg hk ⊢
      cases n with
      | zero =>
        obtain rfl : g = g' := by simpa using hg
        obtain rfl : k = k' := by simpa using hk
        refine ⟨h, fun d rest e => ?_⟩
        obtain ⟨t, more, front⟩ := groupsFrom_front (Cluster.opened c) [c] cs
        rw [List.getElem?_cons_succ, front] at e
        obtain ⟨rfl, -⟩ : c = d ∧ t = rest := by simpa using e
        simpa using admitted
      | succ n => exact ih (.opened c) hg hk

theorem groupsOf_form {cs : List Cohort} {n : Nat} {g : List Cohort} {k : Cluster}
    (hg : (groupsOf cs)[n]? = some g) (hk : (clustersOf cs)[n]? = some k) :
    FormCluster g k ∧ Separated k (groupsOf cs)[n + 1]? := by
  cases cs with
  | nil => simp [groupsOf] at hg
  | cons c cs => exact groupsFrom_form cs (.opened c) hg hk

/-- A cohort that the cluster of `g` does not take lies on another segment, or has its baseline
window past the peak-window end of each cohort of `g` (07 R132). -/
theorem FormCluster.apart {g : List Cohort} {k : Cluster} {c : Cohort} (h : FormCluster g k)
    (rejected : k.admits c = false) :
    c.segment ≠ k.segment ∨ ∀ d ∈ g, peakEnd d.engage d.cls < baseStart c.engage c.cls := by
  refine or_iff_not_imp_left.mpr fun same d hd => ?_
  have late : ¬baseStart c.engage c.cls ≤ k.peakHi := fun starts => by
    rw [(Cluster.admits_iff k c).mpr ⟨(not_not.mp same).symm, starts⟩] at rejected
    cases rejected
  have := (h.within d hd).2
  omega

/-! ### Windows of the profile (07 R129, R134, R135) -/

/-- The records whose stations lie in a window. -/
def stationsWithin (records : List Station) (lo hi : Int) : List Station :=
  (records.zipIdx.filter fun x => lo ≤ (x.2 : Int) ∧ (x.2 : Int) ≤ hi).map Prod.fst

theorem zipIdx_filter_window {α : Type} (l : List α) (n : Nat) (lo hi : Int) :
    ((l.zipIdx n).filter fun x => lo ≤ (x.2 : Int) ∧ (x.2 : Int) ≤ hi).map Prod.fst =
      (l.take (hi - n + 1).toNat).drop (lo - n).toNat := by
  induction l generalizing n with
  | nil => simp
  | cons x l ih =>
    have tail := ih (n + 1)
    rw [Nat.cast_succ] at tail
    rw [List.zipIdx_cons, List.filter_cons, apply_ite (List.map Prod.fst), List.map_cons, tail]
    by_cases past : hi < n
    · have none : (hi - n + 1).toNat = 0 ∧ (hi - (n + 1) + 1).toNat = 0 := by omega
      simp [none, past.not_ge]
    · have more : (hi - n + 1).toNat = (hi - (n + 1) + 1).toNat + 1 := by omega
      rw [more, List.take_succ_cons]
      by_cases reached : lo ≤ n
      · have all : (lo - n).toNat = 0 ∧ (lo - (n + 1)).toNat = 0 := by omega
        simp [all, reached, not_lt.mp past]
      · have skip : (lo - n).toNat = (lo - (n + 1)).toNat + 1 := by omega
        rw [skip, List.drop_succ_cons]
        simp [reached]

/-- The window cut to the stations captured holds the records whose stations lie in it. -/
theorem windowOf_eq {records : List Station} {last : Nat} (captured : records.length = last + 1)
    (lo hi : Int) : windowOf records lo (min hi last) = stationsWithin records lo hi := by
  rw [stationsWithin, zipIdx_filter_window, List.drop_take, windowOf]
  simp only [Nat.cast_zero, sub_zero]
  rw [List.take_eq_take_iff, List.length_drop]
  omega

/-- A window that begins at a captured station or before, and ends at station 0 or after, is not
empty. -/
theorem windowOf_ne_nil {records : List Station} {last : Nat} {lo hi : Int}
    (captured : records.length = last + 1) (starts : lo ≤ last) (ends : 0 ≤ hi)
    (ordered : lo ≤ hi) :
    windowOf records lo (min hi last) ≠ [] := by
  rw [← List.length_pos_iff, windowOf, List.length_take, List.length_drop]
  omega

/-! ### Share and flags (07 R134 to R137) -/

theorem greatest_eq {l : List Int} {x : Int} (hx : x ∈ l) (most : ∀ y ∈ l, y ≤ x) :
    greatest l = x := by
  cases l with
  | nil => cases hx
  | cons y l =>
    have : (y :: l).max? = some x := List.max?_eq_some_iff.mpr ⟨hx, most⟩
    rwa [List.max?_cons', Option.some.injEq] at this

theorem meanForce_eq (l : List Int) :
    meanForce l = if l = [] then 0 else roundDiv l.sum l.length := by
  simp [meanForce]

section judge

variable {records : List Station} {last : Nat} {k : Cluster} (captured : records.length = last + 1)

include captured

/-- The share is that of the greatest force in the peak window over the baseline (07 R134 to
R136). -/
theorem judge_share {top : Station} (htop : top ∈ stationsWithin records k.peakLo k.peakHi)
    (most : ∀ x ∈ stationsWithin records k.peakLo k.peakHi,
      x.force k.segment ≤ top.force k.segment) :
    let base := (stationsWithin records k.baseLo k.baseHi).map fun r => r.force k.segment
    (judge records last k).share =
      max (-32768) (min 32767 (roundDiv (top.force k.segment - meanForce base) k.size)) := by
  have peak : greatest ((stationsWithin records k.peakLo k.peakHi).map fun r => r.force k.segment) =
      top.force k.segment :=
    greatest_eq (List.mem_map_of_mem htop) (List.forall_mem_map.mpr most)
  simp only [judge, windowOf_eq captured, peak, shareOf]
  exact clamp_eq (by decide) _

/-- The flags of a cluster (07 R134, R135, R137). -/
theorem judge_flags :
    let peak := stationsWithin records k.peakLo k.peakHi
    (judge records last k).flags =
      { baseClipped := k.baseLo < 0
        truncated := (last : Int) < k.peakHi
        sparse := peak.length < 2 * (peak.filter Station.stale).length
        sat := peak.any fun r => r.sats.getD k.segment false } := by
  simp only [judge, windowOf_eq captured, List.countP_eq_length_filter]

end judge

/-- Settles O60: the cohorts of a sorted map, the groups of `clustersFrom`, and the judgement by the
records of the windows. -/
theorem clustersAndSharesFollowTheProfile : Obligations.ClustersAndSharesFollowTheProfile := by
  refine ⟨fun m sorted uniform => ?_, fun cs => ?_,
    fun records last k captured starts ends ordered => ?_⟩
  · have h := cohortsOf_form m sorted
    refine ⟨fun c hc => ⟨h.pins_pos hc, h.counted c hc⟩, fun p hp => ?_, h.ascending⟩
    obtain ⟨c, hc, key⟩ := h.covered p hp
    exact ⟨c, hc, key.1, key.2, fun w => h.cls_eq uniform hc hp key⟩
  · refine ⟨groupsOf cs, ?_, ?_, fun n g k hg hk => ?_⟩
    · cases cs with
      | nil => rfl
      | cons c cs => exact groupsFrom_flatten _ [c] cs
    · cases cs with
      | nil => rfl
      | cons c cs => exact groupsFrom_length _ [c] cs
    · obtain ⟨h, separated⟩ := groupsOf_form hg hk
      exact ⟨h.opening, h.within, h.reached, h.size, h.members, h.joined,
        fun c rest next => h.apart (separated c rest next)⟩
  · intro window base peak baseline j
    have flags : j.flags = _ := judge_flags captured
    have filled : peak ≠ [] := by
      have := windowOf_ne_nil captured starts ends ordered
      rwa [windowOf_eq captured] at this
    refine ⟨fun top htop most => ?_, filled, ?_, ?_, ?_, ?_⟩
    · have mean : baseline = meanForce base := (meanForce_eq base).symm
      rw [mean]
      exact judge_share captured htop most
    · rw [flags]; exact decide_eq_true_iff
    · rw [flags]; exact decide_eq_true_iff
    · rw [flags]; exact decide_eq_true_iff
    · rw [flags]; exact List.any_eq_true

end Sys2Proof.Machine
end

section
/-! SUPPORT. The verdicts (07 R130, R131, R138, R139): the cluster that holds a judged cohort, and
the result record of a pin by the set of usable segments and the last captured station. -/

namespace Sys2Proof.Machine

/-! ### The clusters cover the judged cohorts (07 R132) -/

theorem groupsOf_flatten (cs : List Cohort) : (groupsOf cs).flatten = cs := by
  cases cs with
  | nil => rfl
  | cons c cs => exact groupsFrom_flatten _ [c] cs

theorem groupsOf_length (cs : List Cohort) : (groupsOf cs).length = (clustersOf cs).length := by
  cases cs with
  | nil => rfl
  | cons c cs => exact groupsFrom_length _ [c] cs

/-- A cluster is what some of the cohorts merge into. -/
theorem exists_group_of_mem_clustersOf {cs : List Cohort} {k : Cluster} (hk : k ∈ clustersOf cs) :
    ∃ g, FormCluster g k ∧ g ⊆ cs := by
  obtain ⟨n, hn, rfl⟩ := List.getElem_of_mem hk
  have hg : n < (groupsOf cs).length := (groupsOf_length cs).symm ▸ hn
  refine ⟨_, (groupsOf_form (List.getElem?_eq_getElem hg) (List.getElem?_eq_getElem hn)).1,
    fun c hc => ?_⟩
  rw [← groupsOf_flatten cs]
  exact List.mem_flatten_of_mem (List.getElem_mem hg) hc

/-- Every cohort is in a cluster of its segment. -/
theorem exists_mem_clustersOf {cs : List Cohort} {c : Cohort} (hc : c ∈ cs) :
    ∃ k ∈ clustersOf cs, k.segment = c.segment ∧ c.engage ∈ k.members := by
  rw [← groupsOf_flatten cs] at hc
  obtain ⟨g, hg, hc⟩ := List.mem_flatten.mp hc
  obtain ⟨n, hn, rfl⟩ := List.getElem_of_mem hg
  have hk : n < (clustersOf cs).length := groupsOf_length cs ▸ hn
  have h := (groupsOf_form (List.getElem?_eq_getElem hn) (List.getElem?_eq_getElem hk)).1
  exact ⟨_, List.getElem_mem hk, (h.within c hc).1.symm, (h.members _).mpr ⟨c, hc, rfl⟩⟩

/-- A cluster of cohorts that have pins has a pin. -/
theorem one_le_size_of_mem_clustersOf {cs : List Cohort} {k : Cluster} (hk : k ∈ clustersOf cs)
    (filled : ∀ c ∈ cs, 1 ≤ c.pins) : 1 ≤ k.size := by
  obtain ⟨g, h, sub⟩ := exists_group_of_mem_clustersOf hk
  obtain ⟨c, rest, rfl, -⟩ := h.opening
  rw [h.size, List.map_cons, List.sum_cons]
  exact (filled c (sub List.mem_cons_self)).trans (Nat.le_add_right _ _)

/-- The cluster found for a pin is one of its segment that holds its engage station. -/
theorem clusterFor_eq_some {ks : List Cluster} {p : PinRecord} {k : Cluster}
    (h : clusterFor ks p = some k) : k ∈ ks ∧ k.segment = p.segment ∧ p.engage ∈ k.members :=
  ⟨List.mem_of_find?_eq_some h, by simpa using List.find?_some h⟩

/-- A pin whose cohort is clustered has a cluster. -/
theorem exists_clusterFor_of_mem {cs : List Cohort} {c : Cohort} {p : PinRecord} (hc : c ∈ cs)
    (key : c.segment = p.segment ∧ c.engage = p.engage) :
    ∃ k, clusterFor (clustersOf cs) p = some k := by
  obtain ⟨k, hk, segment, member⟩ := exists_mem_clustersOf hc
  refine Option.isSome_iff_exists.mp (List.find?_isSome.mpr ⟨k, hk, ?_⟩)
  simpa [← key.1, ← key.2] using ⟨segment, member⟩

/-! ### Usable and reached (07 R130, R131) -/

theorem reaches_eq_true_iff {i : EvalInputs} {start : Int} :
    i.reaches start = true ↔ ∃ l, i.last = some l ∧ start ≤ (l : Int) := by
  unfold EvalInputs.reaches
  cases i.last <;> simp

/-- No peak window that begins past the last captured station is reached (07 R131). -/
theorem reaches_eq_false {i : EvalInputs} {start : Int}
    (short : ∀ l, i.last = some l → (l : Int) < start) : i.reaches start = false := by
  rw [← Bool.not_eq_true, reaches_eq_true_iff]
  rintro ⟨l, last, starts⟩
  exact absurd (short l last) starts.not_gt

/-- The class of a record that names a defined one. -/
theorem classOf_eq {m : MapUnit} {p : PinRecord} {w : WindowClass}
    (defined : m.classes.getD p.cls none = some w) : m.classOf p = w := by
  rw [MapUnit.classOf, MapUnit.classAt, defined]
  rfl

/-- The cohort of a record, where the records of that cohort name one class (07 R129). -/
theorem exists_cohort_of_mem {m : MapUnit} {l : List PinRecord} {p : PinRecord} {w : WindowClass}
    (sorted : l.Pairwise mapOrdered) (hp : p ∈ l)
    (uniform : ∀ q ∈ l, q.segment = p.segment → q.engage = p.engage → q.cls = p.cls)
    (defined : m.classes.getD p.cls none = some w) :
    ∃ c ∈ cohortsOf m l, (c.segment = p.segment ∧ c.engage = p.engage) ∧ c.cls = w := by
  have h := cohortsOf_form m sorted
  obtain ⟨c, hc, key⟩ := h.covered p hp
  obtain ⟨q, hq, ⟨segment, engage⟩, e⟩ := h.drawn c hc
  have same : q.cls = p.cls := uniform q hq (segment.trans key.1) (engage.trans key.2)
  exact ⟨c, hc, key, e.trans (classOf_eq (same ▸ defined))⟩

/-! ### The result record of a pin (07 R130, R131, R138, R139) -/

section resultFor

variable {m : MapUnit} {i : EvalInputs} {records : List Station} {ks : List Cluster} {p : PinRecord}

/-- A result record names its map record. -/
theorem resultFor_source : (resultFor m i records ks p).pin = p.pin ∧
    (resultFor m i records ks p).segment = p.segment ∧
    (resultFor m i records ks p).engage = p.engage := by
  unfold resultFor
  repeat' split
  all_goals exact ⟨rfl, rfl, rfl⟩

/-- A pin of a segment outside the usable set (07 R130). -/
theorem resultFor_unusable (unusable : i.usableAt p.segment = false) :
    resultFor m i records ks p = ResultRecord.unjudged p .unverified := by
  simp [resultFor, unusable]

/-- A pin whose peak window is not reached (07 R131). -/
theorem resultFor_unreached (usable : i.usableAt p.segment = true)
    (unreached : i.reaches (peakStart p.engage (m.classOf p)) = false) :
    resultFor m i records ks p = ResultRecord.unjudged p .notReached := by
  cases last : i.last <;> cases found : clusterFor ks p <;>
    simp [resultFor, usable, unreached, last, found]

/-- A pin whose cluster is judged (07 R138, R139). -/
theorem resultFor_judged {l : Nat} {k : Cluster} (usable : i.usableAt p.segment = true)
    (last : i.last = some l) (found : clusterFor ks p = some k)
    (reached : i.reaches (peakStart p.engage (m.classOf p)) = true) :
    resultFor m i records ks p =
      { pin := p.pin, segment := p.segment, engage := p.engage
        verdict := verdictOf (m.classOf p) (judge records l k)
        share := some (judge records l k).share, size := some k.size
        flags := (judge records l k).flags } := by
  simp [resultFor, usable, last, found, reached]

end resultFor

/-- The share of a cluster is a 16-bit number (07 R136). -/
theorem judge_share_range (records : List Station) (last : Nat) (k : Cluster) :
    -32768 ≤ (judge records last k).share ∧ (judge records last k).share ≤ 32767 :=
  clamp_range (by decide)

/-- A pin that is usable and reached has its cohort among the judged ones, and so a cluster (07 R130
to R132). -/
theorem exists_clusterFor_evaluateClusters {m : MapUnit} {i : EvalInputs} {p : PinRecord}
    {w : WindowClass} (sorted : m.active.Pairwise mapOrdered) (hp : p ∈ m.active)
    (uniform : ∀ q ∈ m.active, q.segment = p.segment → q.engage = p.engage → q.cls = p.cls)
    (defined : m.classes.getD p.cls none = some w) (usable : i.usableAt p.segment = true)
    (reached : i.reaches (peakStart p.engage w) = true) :
    ∃ k, clusterFor (evaluateClusters m i) p = some k := by
  obtain ⟨c, hc, key, rfl⟩ := exists_cohort_of_mem sorted hp uniform defined
  refine exists_clusterFor_of_mem (List.mem_filter.mpr ⟨hc, ?_⟩) key
  rw [EvalInputs.judges, key.1, key.2, usable, reached]
  rfl

/-- Settles O50: a pin outside the usable set, one that is not reached, and one with a cluster that
is judged. -/
theorem verdictsFollowTheShare : Obligations.VerdictsFollowTheShare := by
  intro m p i n pin c r hpin defined uniform sorted hr
  have cls : m.classOf pin = c := classOf_eq defined
  obtain rfl : resultFor m i (capturedRecords i p) (evaluateClusters m i) pin = r := by
    simpa [evaluateResults, hpin] using hr
  refine ⟨fun unusable => ?_, fun usable short => ?_, fun l usable last starts => ?_⟩
  · rw [resultFor_unusable unusable]
    exact ⟨rfl, rfl⟩
  · rw [resultFor_unreached usable (by rw [cls]; exact reaches_eq_false short)]
    exact ⟨rfl, rfl⟩
  · have reached : i.reaches (peakStart pin.engage c) = true :=
      reaches_eq_true_iff.mpr ⟨l, last, starts⟩
    obtain ⟨k, found⟩ := exists_clusterFor_evaluateClusters sorted (List.mem_of_getElem? hpin)
      uniform defined usable reached
    obtain ⟨hk, segment, member⟩ := clusterFor_eq_some found
    have filled : 1 ≤ k.size := one_le_size_of_mem_clustersOf hk fun d hd =>
      (cohortsOf_form m sorted).pins_pos (List.mem_of_mem_filter hd)
    have captured : capturedRecords i p = p.records.take (l + 1) := by
      simp [capturedRecords, last]
    rw [resultFor_judged usable last found (by rw [cls]; exact reached), cls, captured]
    obtain ⟨low, high⟩ := judge_share_range (p.records.take (l + 1)) l k
    exact ⟨_, _, rfl, rfl, ⟨k, hk, segment, member, rfl, rfl, rfl⟩, filled, low, high, rfl⟩

end Sys2Proof.Machine
end

section
/-! SUPPORT. The completion of the evaluation (07 R122, R124, R139 to R145): the parts of the stroke
summary, the report and the states they bring, and the engine's work in an idle step. -/

namespace Sys2Proof.Machine

/-! ### The verdict counts and the stroke result (07 R142, R144) -/

theorem countVerdict_eq_length (rs : List ResultRecord) (v : Verdict) :
    countVerdict rs v = (rs.filter fun r => r.verdict = v).length :=
  List.countP_eq_length_filter

theorem countVerdict_eq_zero {rs : List ResultRecord} {v : Verdict} :
    countVerdict rs v = 0 ↔ ∀ r ∈ rs, r.verdict ≠ v := by
  simp [countVerdict]

/-- Each record is counted under one verdict. -/
theorem verdictCounts_sum (rs : List ResultRecord) :
    (verdictCounts rs).pass + (verdictCounts rs).low + (verdictCounts rs).high +
      (verdictCounts rs).absent + (verdictCounts rs).notReached + (verdictCounts rs).unverified =
      rs.length := by
  simp only [verdictCounts, countVerdict]
  induction rs with
  | nil => rfl
  | cons r rs ih =>
    simp only [List.countP_cons, List.length_cons]
    cases r.verdict <;> simp <;> omega

/-- The counts that make a stroke fail are 0 where every record is PASS or UNVERIFIED. -/
theorem verdictCounts_unfailed_iff {rs : List ResultRecord} :
    ((verdictCounts rs).low = 0 ∧ (verdictCounts rs).high = 0 ∧ (verdictCounts rs).absent = 0 ∧
      (verdictCounts rs).notReached = 0) ↔
      ∀ r ∈ rs, r.verdict = .pass ∨ r.verdict = .unverified := by
  simp only [verdictCounts, countVerdict_eq_zero, ← forall_and]
  refine forall₂_congr fun r _ => ?_
  cases r.verdict <;> decide

theorem strokeResult_pass_iff {i : EvalInputs} {rs : List ResultRecord} :
    strokeResult i (verdictCounts rs) = .pass ↔
      i.outcome = .seatedOk ∧ i.secondary = none ∧ ∀ r ∈ rs, r.verdict = .pass := by
  have verified : (∀ r ∈ rs, r.verdict = .pass) ↔
      (∀ r ∈ rs, r.verdict = .pass ∨ r.verdict = .unverified) ∧
        ∀ r ∈ rs, r.verdict ≠ .unverified := by
    rw [← forall₂_and]
    refine forall₂_congr fun r _ => ?_
    cases r.verdict <;> decide
  rw [verified, ← verdictCounts_unfailed_iff, ← countVerdict_eq_zero]
  unfold strokeResult
  split_ifs <;> simp_all [verdictCounts]

theorem strokeResult_incomplete_iff {i : EvalInputs} {rs : List ResultRecord} :
    strokeResult i (verdictCounts rs) = .incomplete ↔
      i.outcome = .seatedOk ∧ i.secondary = none ∧
        (∀ r ∈ rs, r.verdict = .pass ∨ r.verdict = .unverified) ∧
        ∃ r ∈ rs, r.verdict = .unverified := by
  have some_unverified : (∃ r ∈ rs, r.verdict = .unverified) ↔ countVerdict rs .unverified ≠ 0 := by
    simp [countVerdict_eq_zero]
  rw [some_unverified, ← verdictCounts_unfailed_iff]
  unfold strokeResult
  split_ifs <;> simp_all [verdictCounts]

/-! ### The peak total and the work (07 R141, R143) -/

/-- The better of the best total so far and a station's total; the earlier keeps a tie. -/
def higherTotal (best : Int × Nat) (x : Station) : Int × Nat :=
  if best.1 < x.total then (x.total, x.index) else best

theorem peakTotal_cons (x : Station) (l : List Station) :
    peakTotal (x :: l) = some (l.foldl higherTotal (x.total, x.index)) := rfl

theorem foldl_higherTotal_of_le {l : List Station} {best : Int × Nat}
    (most : ∀ y ∈ l, y.total ≤ best.1) : l.foldl higherTotal best = best := by
  induction l with
  | nil => rfl
  | cons y l ih =>
    obtain ⟨first, later⟩ := List.forall_mem_cons.mp most
    rw [List.foldl_cons, higherTotal, if_neg first.not_gt, ih later]

theorem foldl_higherTotal_lt {l : List Station} {best : Int × Nat} {t : Int} (low : best.1 < t)
    (below : ∀ y ∈ l, y.total < t) : (l.foldl higherTotal best).1 < t := by
  induction l generalizing best with
  | nil => exact low
  | cons y l ih =>
    obtain ⟨first, later⟩ := List.forall_mem_cons.mp below
    refine ih ?_ later
    unfold higherTotal
    split
    · exact first
    · exact low

/-- The peak total is that of the first station that holds the greatest (07 R141). -/
theorem peakTotal_append {before after : List Station} {x : Station}
    (below : ∀ y ∈ before, y.total < x.total) (most : ∀ y ∈ after, y.total ≤ x.total) :
    peakTotal (before ++ x :: after) = some (x.total, x.index) := by
  cases before with
  | nil =>
    rw [List.nil_append, peakTotal_cons, foldl_higherTotal_of_le most]
  | cons b before =>
    obtain ⟨first, later⟩ := List.forall_mem_cons.mp below
    rw [List.cons_append, peakTotal_cons, List.foldl_append, List.foldl_cons]
    generalize hbest : before.foldl higherTotal (b.total, b.index) = best
    have low : best.1 < x.total := hbest ▸ foldl_higherTotal_lt first later
    rw [higherTotal, if_pos low, foldl_higherTotal_of_le most]

theorem peakTotal_eq {l : List Station} {n : Nat} {x : Station} (hx : l[n]? = some x)
    (most : ∀ y ∈ l, y.total ≤ x.total) (below : ∀ y ∈ l.take n, y.total < x.total) :
    peakTotal l = some (x.total, x.index) := by
  obtain ⟨hn, rfl⟩ := List.getElem?_eq_some_iff.mp hx
  have parts : l = l.take n ++ l[n] :: l.drop (n + 1) := by
    rw [List.getElem_cons_drop, List.take_append_drop]
  conv_lhs => rw [parts]
  exact peakTotal_append below fun y hy => most y (List.mem_of_mem_drop hy)

theorem strokeWork_eq (records : List Station) (pitch : Nat) :
    strokeWork records pitch = (max 0 (min 4294967295
      (roundDiv ((records.map Station.total).sum * pitch) 10000))).toNat :=
  congrArg Int.toNat (clamp_eq (by decide) _)

/-! ### The results stand in map order (07 R139) -/

theorem evaluateResults_source (m : MapUnit) (p : Profile) (i : EvalInputs) :
    (evaluateResults m p i).map ResultRecord.pin = m.active.map PinRecord.pin ∧
    (evaluateResults m p i).map ResultRecord.segment = m.active.map PinRecord.segment ∧
    (evaluateResults m p i).map ResultRecord.engage = m.active.map PinRecord.engage := by
  simp [evaluateResults, resultFor_source]

/-! ### The completion (07 R122, R124, R145) -/

/-- The part with the results `rs` and their summary installed, in COMPLETE. -/
def State.evaluated (rs : List ResultRecord) (m : Summary) (s : State) : State :=
  { s with
    engine := { run := none, work := WorkTable.empty, results := rs
                summary := some m, valid := true }
    stroke := { s.stroke with state := .complete }
    lines := { s.lines with indication := indicationOf m.result } }

/-- The completion of a running evaluation, with its report sent or queued. -/
theorem exec_evaluationCompletion {s : State} {i : EvalInputs} (ready : s.Ready)
    (running : s.engine.run = some i) :
    let rs := s.engine.work.finish s.map s.profile i
    let m := evaluateSummary rs s.profile i
    exec .evaluationCompletion s = .next ((s.evaluated rs m).reported (resultReady m)) := by
  intro rs m
  have posted : evaluationCompletion s = post (resultReady m) (s.evaluated rs m) := by
    rw [evaluationCompletion, running]
    rfl
  show live evaluationCompletion s = _
  rw [live_ready ready, posted,
    transmit_post (by exact ready.quiet ▸ List.not_mem_nil) (by exact ready.fed)]

/-! ### The work of an idle step (07 R124; log 22) -/

/-- A step of the engine takes the next record to form and those after it of its segment. -/
theorem WorkTable.advance_next {m : MapUnit} {p : Profile} {i : EvalInputs} {w : WorkTable}
    {r : ResultRecord} (next : (evaluateResults m p i)[w.records.length]? = some r) :
    w.records.length < (w.advance m p i).records.length ∧
    (∀ x ∈ (w.advance m p i).records.drop w.records.length, x.segment = r.segment) ∧
    ∀ c ∈ (w.advance m p i).clusters, c.segment = r.segment := by
  rcases WorkTable.advance_cases m p i w with ⟨none, -⟩ | ⟨r', rest, front, e⟩
  · rw [List.drop_eq_nil_iff, ← List.getElem?_eq_none_iff, next] at none
    cases none
  · obtain rfl : r' = r := by
      rw [← Option.some.injEq, ← next, ← List.head?_drop, front, List.head?_cons]
    rw [e]
    refine ⟨by simp, fun x hx => ?_, fun c hc => ?_⟩
    · rw [List.drop_left, List.mem_cons] at hx
      rcases hx with rfl | hx
      · rfl
      · simpa using List.mem_takeWhile_imp hx
    · simpa using (List.mem_filter.mp hc).2

/-- With nothing waiting and nothing due, a running part takes the idle tick. -/
theorem step_eq_tick {s : State} (waiting : s.pending = []) (quiet : s.due = [])
    (runs : s.held = false) : step s = .next (tick s) := by
  simp [step, idle, waiting, quiet, runs]

/-- Settles O49: the summary part by part, the completion, and an idle step of a running
evaluation. -/
theorem evaluationCompletes : Obligations.EvaluationCompletes := by
  refine ⟨fun s i rs all m taken ready running hall hrs hm htaken => ?_,
    fun s i waiting quiet runs running formed => ?_⟩
  · subst hall
    obtain rfl : s.engine.work.finish s.map s.profile i = rs := hrs.symm
    obtain rfl : capturedRecords i s.profile = taken := htaken.symm
    subst hm
    obtain ⟨pins, segments, engages⟩ := evaluateResults_source s.map s.profile i
    refine ⟨WorkTable.finish_prefix, pins, segments, engages, rfl, rfl, rfl, rfl, rfl, rfl, rfl,
      rfl, countVerdict_eq_length _ _, countVerdict_eq_length _ _, countVerdict_eq_length _ _,
      countVerdict_eq_length _ _, countVerdict_eq_length _ _, countVerdict_eq_length _ _,
      verdictCounts_sum _, fun none => congrArg peakTotal none, fun n x => peakTotal_eq,
      strokeWork_eq _ _, strokeResult_pass_iff, strokeResult_incomplete_iff, ?_⟩
    rw [exec_evaluationCompletion ready running]
    simp only [resultReady, VerdictCounts.bytes, List.append_assoc]
    rfl
  · obtain ⟨level, n, e⟩ := tick_eq s
    rw [step_eq_tick waiting quiet runs, e]
    simp only [running]
    refine ⟨_, rfl, rfl, rfl, rfl, WorkTable.advance_prefix formed, fun k r next last => ?_⟩
    subst last
    exact WorkTable.advance_next next

end Sys2Proof.Machine
end

section
/-! SUPPORT. The reads of the records of a stroke (08 R151 to R158, R161, R162): what PROFILE_READ,
RESULT_READ and RESULT_SUMMARY answer in each case, and their entries field by field. -/

namespace Sys2Proof.Machine

/-- A flag's share of its byte. -/
theorem mul_bit (n : Nat) (b : Bool) : n * bit b = if b then n else 0 := by
  cases b <;> simp [bit]

/-! ### PROFILE_READ (08 R151 to R153, R161) -/

section serveProfileRead

variable {sel : Byte} {first : BitVec 16} {count : Byte} {s : State}

theorem serveProfileRead_field
    (out : 64 < sel.toNat ∨ 1023 < first.toNat ∨ count.toNat = 0 ∨ 80 < count.toNat) :
    serveProfileRead sel first count s = (s, .refusal .field) := by
  simp [serveProfileRead, out, or_assoc]

theorem serveProfileRead_ok (selector : sel.toNat ≤ 64) (station : first.toNat ≤ 1023)
    (some : 1 ≤ count.toNat) (most : count.toNat ≤ 80) :
    serveProfileRead sel first count s =
      (s, .okWith (profileBody s.profile sel.toNat first.toNat count.toNat)) := by
  have inside : ¬(64 < sel.toNat ∨ 1023 < first.toNat ∨ count.toNat = 0 ∨ 80 < count.toNat) := by
    omega
  simp [serveProfileRead, inside, or_assoc]

end serveProfileRead

/-- Settles O25, by the range of each field, and the header and entries of a read in range. -/
theorem profileReadReturnsTheWindow : Obligations.ProfileReadReturnsTheWindow := by
  intro sel first count s serving
  refine ⟨fun out => ?_, fun selector station some most window taken => ?_⟩
  · exact request_read serving rfl (serveProfileRead_field out)
  · subst taken
    refine (request_read serving rfl (serveProfileRead_ok selector station some most)).trans ?_
    simp only [profileBody, u8_toNat, Station.totalEntry, Station.segmentEntry, mul_bit]
    rfl

/-! ### RESULT_READ (08 R156, R157, R162) -/

section serveResultRead

variable {first : BitVec 16} {count : Byte} {s : State}

theorem serveResultRead_busy (running : s.engine.run.isSome = true) :
    serveResultRead first count s = (s, .refusal .busy) := by
  simp [serveResultRead, running]

variable (stopped : s.engine.run = none)

include stopped

theorem serveResultRead_noResults (invalid : s.engine.valid = false) :
    serveResultRead first count s = (s, .refusal .noResults) := by
  simp [serveResultRead, stopped, invalid]

variable (valid : s.engine.valid = true)

include valid

theorem serveResultRead_field
    (out : 2047 < first.toNat ∨ count.toNat = 0 ∨ 24 < count.toNat) :
    serveResultRead first count s = (s, .refusal .field) := by
  simp [serveResultRead, stopped, valid, out, or_assoc]

theorem serveResultRead_ok {m : Summary} (summary : s.engine.summary = some m)
    (within : first.toNat ≤ 2047) (some : 1 ≤ count.toNat) (most : count.toNat ≤ 24) :
    serveResultRead first count s =
      (s, .okWith (resultBody m.number s.engine.results first.toNat count.toNat)) := by
  have inside : ¬(2047 < first.toNat ∨ count.toNat = 0 ∨ 24 < count.toNat) := by omega
  simp [serveResultRead, stopped, valid, inside, or_assoc, Engine.number, summary]

end serveResultRead

/-- The verdict and flags byte of a result record, flag by flag (08 R162; bit 3: log 43). -/
theorem ResultRecord.bytes_eq (r : ResultRecord) :
    r.bytes = u16 r.pin ++ u8 r.segment ++ u16 r.engage ++
      u8 (r.verdict.code + (if r.flags.baseClipped then 16 else 0) +
        (if r.flags.truncated then 32 else 0) + (if r.flags.sparse then 64 else 0) +
        (if r.flags.sat then 128 else 0)) ++
      i16 (r.share.getD 0) ++ u16 (r.size.getD 0) := by
  simp only [ResultRecord.bytes, Flags.code, mul_bit, Nat.add_assoc]

/-! ### RESULT_SUMMARY (08 R158, R162) -/

section serveResultSummary

variable {s : State}

theorem serveResultSummary_busy (running : s.engine.run.isSome = true) :
    serveResultSummary s = (s, .refusal .busy) := by
  simp [serveResultSummary, running]

variable (stopped : s.engine.run = none)

include stopped

theorem serveResultSummary_noResults (invalid : s.engine.valid = false) :
    serveResultSummary s = (s, .refusal .noResults) := by
  simp [serveResultSummary, stopped, invalid]

theorem serveResultSummary_ok {m : Summary} (valid : s.engine.valid = true)
    (summary : s.engine.summary = some m) :
    serveResultSummary s = (s, .okWith (summaryBody m)) := by
  simp [serveResultSummary, stopped, valid, summary]

end serveResultSummary

/-- Settles O26: the refusals in their order, the records of the window, and the summary by the
fields that may be none. -/
theorem resultsAreReadWhileValid : Obligations.ResultsAreReadWhileValid := by
  refine ⟨fun first count s serving => ⟨fun running => ?_, fun stopped invalid => ?_,
      fun stopped valid out => ?_,
      fun m stopped valid summary within some most window taken => ?_⟩,
    fun s serving => ⟨fun running => ?_, fun stopped invalid => ?_,
      fun m stopped valid summary => ?_⟩⟩
  · exact request_read serving rfl (serveResultRead_busy (s := s.heard) running)
  · exact request_read serving rfl (serveResultRead_noResults (s := s.heard) stopped invalid)
  · exact request_read serving rfl (serveResultRead_field (s := s.heard) stopped valid out)
  · subst taken
    simp only [← ResultRecord.bytes_eq]
    exact request_read serving rfl
      (serveResultRead_ok (s := s.heard) stopped valid summary within some most)
  · exact request_read serving rfl (serveResultSummary_busy (s := s.heard) running)
  · exact request_read serving rfl (serveResultSummary_noResults (s := s.heard) stopped invalid)
  · refine (request_read serving rfl
      (serveResultSummary_ok (s := s.heard) stopped valid summary)).trans ?_
    simp only [summaryBody, stationField_eq, VerdictCounts.bytes, List.append_assoc]
    -- What is left to compare are the three fields that R158 gives case by case.
    congr
    · cases m.secondary <;> rfl
    · rcases m.trip with _ | ⟨_ | n, force⟩ <;> rfl
    · cases m.peak <;> rfl

end Sys2Proof.Machine
end

section
/-! SUPPORT. SET_LINES (09 R166, R167, R174): the codes of its records, the lowest line that
offends, the table it writes, and the event of home that it is. -/

namespace Sys2Proof.Machine

/-! ### The codes of a line record (09 R166, R174) -/

/-- A code from 0 to 8 is that of a function (09 R174). -/
theorem functionOf_code {b : Byte} (known : b.toNat ≤ 8) :
    ∃ f, functionOf b = some f ∧ f.code = b.toNat := by
  unfold functionOf
  have codes : b.toNat = 0 ∨ b.toNat = 1 ∨ b.toNat = 2 ∨ b.toNat = 3 ∨ b.toNat = 4 ∨ b.toNat = 5 ∨
      b.toNat = 6 ∨ b.toNat = 7 ∨ b.toNat = 8 := by omega
  rcases codes with h | h | h | h | h | h | h | h | h <;> rw [h] <;> exact ⟨_, rfl, rfl⟩

/-- A code above 8 is that of no function (09 R174). -/
theorem functionOf_none {b : Byte} (unknown : 8 < b.toNat) : functionOf b = none := by
  unfold functionOf
  split
  case h_10 => rfl
  all_goals omega

theorem levelOf_isSome (b : Byte) : (levelOf b).isSome = true ↔ b.toNat ≤ 1 := by
  unfold levelOf
  by_cases h0 : b.toNat = 0
  · simp [h0]
  · by_cases h1 : b.toNat = 1
    · simp [h1]
    · have : 1 < b.toNat := by omega
      simp [h0, h1, this]

theorem LineFunction.single_iff (f : LineFunction) :
    f.single = true ↔ f.code ∈ singleFunctions := by
  cases f <;> decide

end Sys2Proof.Machine

namespace Sys2Proof.LineWire

open Machine

/-- The codes of a record are those of a function and of a level (09 R166, check 2). -/
def InRange (l : LineWire) : Prop := l.function.toNat ≤ 8 ∧ l.active.toNat ≤ 1

/-- The function of a record in range. -/
def named (l : LineWire) : LineFunction := (functionOf l.function).getD .generalIn

theorem ok_iff (l : LineWire) : l.ok = true ↔ l.InRange := by
  rw [LineWire.ok, Bool.and_eq_true, levelOf_isSome]
  refine and_congr_left fun _ => ?_
  by_cases known : l.function.toNat ≤ 8
  · obtain ⟨f, e, -⟩ := functionOf_code known
    simp [e, known]
  · simp [functionOf_none (Nat.lt_of_not_le known), known]

theorem functionOf_named {l : LineWire} (h : l.InRange) : functionOf l.function = some l.named := by
  obtain ⟨f, e, -⟩ := functionOf_code h.1
  rw [named, e]
  rfl

theorem named_code {l : LineWire} (h : l.InRange) : l.named.code = l.function.toNat := by
  obtain ⟨f, e, code⟩ := functionOf_code h.1
  rw [named, e]
  exact code

/-- Records in range name the same function where their codes are the same. -/
theorem named_eq_iff {k l : LineWire} (hk : k.InRange) (hl : l.InRange) :
    k.named = l.named ↔ k.function = l.function := by
  refine ⟨fun e => ?_, fun e => by rw [named, named, e]⟩
  rw [← BitVec.toNat_inj, ← named_code hk, ← named_code hl, e]

/-- A record in range writes its function and active level, and leaves the stored value and the
filter (09 R167). -/
theorem write_eq {r : LineWire} (h : r.InRange) (l : Line) :
    r.write l =
      { l with function := r.named, active := if r.active = 1#8 then .high else .low } := by
  have level : levelOf r.active = some (if r.active = 1#8 then .high else .low) := by
    have value : r.active = 1#8 ↔ r.active.toNat = 1 := by rw [← BitVec.toNat_inj]; rfl
    obtain ⟨-, active⟩ := h
    unfold levelOf
    rw [if_congr value rfl rfl]
    by_cases one : r.active.toNat = 1
    · simp [one]
    · have zero : r.active.toNat = 0 := by omega
      simp [zero]
  rw [write, functionOf_named h, level]
  rfl

end Sys2Proof.LineWire

namespace Sys2Proof.Machine

/-! ### The lowest line that offends (09 R166) -/

/-- Function `k` of a list is one that a single line may hold, and stands below it: in the list or
in `lower`. -/
def NamedAgain (lower fs : List LineFunction) (k : Nat) : Prop :=
  ∃ f, fs[k]? = some f ∧ f.single = true ∧ (f ∈ lower ∨ f ∈ fs.take k)

theorem namedAgain_cons_zero {lower fs : List LineFunction} {f : LineFunction} :
    NamedAgain lower (f :: fs) 0 ↔ f.single = true ∧ f ∈ lower := by
  simp [NamedAgain]

theorem namedAgain_cons_succ {lower fs : List LineFunction} {f : LineFunction} {k : Nat} :
    NamedAgain lower (f :: fs) (k + 1) ↔ NamedAgain (f :: lower) fs k := by
  simp [NamedAgain, or_left_comm, or_assoc]

/-- The second line to name a function is found. -/
theorem secondNamed_some {lower fs : List LineFunction} {n k : Nat} (again : NamedAgain lower fs k)
    (before : ∀ j < k, ¬NamedAgain lower fs j) : secondNamed lower n fs = some (n + k) := by
  induction fs generalizing lower n k with
  | nil =>
    obtain ⟨f, at_k, -⟩ := again
    simp at at_k
  | cons f fs ih =>
    cases k with
    | zero =>
      have first := namedAgain_cons_zero.mp again
      exact if_pos (by simpa using first)
    | succ k =>
      have first : ¬(f.single = true ∧ f ∈ lower) :=
        fun h => before 0 (Nat.succ_pos k) (namedAgain_cons_zero.mpr h)
      have later := ih (n := n + 1) (namedAgain_cons_succ.mp again) fun j hj h =>
        before (j + 1) (Nat.succ_lt_succ hj) (namedAgain_cons_succ.mpr h)
      rw [secondNamed, if_neg (by simpa using first), later]
      congr 1
      omega

/-- With no function named again none is found. -/
theorem secondNamed_none {lower fs : List LineFunction} {n : Nat}
    (once : ∀ k, ¬NamedAgain lower fs k) : secondNamed lower n fs = none := by
  induction fs generalizing lower n with
  | nil => rfl
  | cons f fs ih =>
    have first : ¬(f.single = true ∧ f ∈ lower) := fun h => once 0 (namedAgain_cons_zero.mpr h)
    rw [secondNamed, if_neg (by simpa using first)]
    exact ih fun k h => once (k + 1) (namedAgain_cons_succ.mpr h)

section records

variable {rs : List LineWire}

/-- A line whose codes are out of range offends. -/
theorem lineOffends_of_not_inRange {n : Nat} {l : LineWire} (line : rs[n]? = some l)
    (out : ¬l.InRange) : lineOffends rs n :=
  ⟨l, line, .inl (by unfold LineWire.InRange at out; omega)⟩

theorem namedAgain_named (n : Nat) :
    NamedAgain [] (rs.map LineWire.named) n ↔ ∃ l, rs[n]? = some l ∧
      l.named.single = true ∧ ∃ k ∈ rs.take n, k.named = l.named := by
  simp [NamedAgain, ← List.map_take]

/-- With every code in range the lines that offend are those that name a function again. -/
theorem lineOffends_iff_namedAgain (ranged : ∀ l ∈ rs, l.InRange) (n : Nat) :
    lineOffends rs n ↔ NamedAgain [] (rs.map LineWire.named) n := by
  rw [namedAgain_named]
  refine exists_congr fun l => and_congr_right fun line => ?_
  have hl := ranged l (List.mem_of_getElem? line)
  have inside : ¬(8 < l.function.toNat ∨ 1 < l.active.toNat) := by
    obtain ⟨function, active⟩ := hl
    omega
  have all : ∀ k ∈ rs, k.function.toNat ≤ 8 ∧ k.active.toNat ≤ 1 := ranged
  rw [LineFunction.single_iff, LineWire.named_code hl, or_iff_right inside, and_iff_right all]
  refine and_congr_right fun _ => exists_congr fun k => and_congr_right fun hk => ?_
  exact (LineWire.named_eq_iff (ranged k (List.mem_of_mem_take hk)) hl).symm

theorem firstFailing_records :
    firstFailing (rs.map fun l => !l.ok) = rs.findIdx? fun l => !l.ok :=
  List.findIdx?_map ..

/-- With every code in range the second line to name a function is refused (09 R166, check 3). -/
theorem badLine_of_inRange (ranged : ∀ l ∈ rs, l.InRange) :
    badLine rs = secondNamed [] 0 (rs.map LineWire.named) := by
  have passes : firstFailing (rs.map fun l => !l.ok) = none := by
    rw [firstFailing_records, List.findIdx?_eq_none_iff]
    intro l hl
    simpa using (LineWire.ok_iff l).mpr (ranged l hl)
  have names : rs.filterMap (fun l => functionOf l.function) = rs.map LineWire.named := by
    rw [← List.filterMap_eq_map]
    exact List.filterMap_congr fun l hl => LineWire.functionOf_named (ranged l hl)
  simp only [badLine, passes, names]

/-- The lowest line that offends is the one a SET_LINES is refused for (09 R166). -/
theorem badLine_some {n : Nat} (offends : lineOffends rs n) (before : ∀ k < n, ¬lineOffends rs k) :
    badLine rs = some n := by
  by_cases ranged : ∀ l ∈ rs, l.InRange
  · rw [badLine_of_inRange ranged]
    simp only [lineOffends_iff_namedAgain ranged] at offends before
    simpa using secondNamed_some (n := 0) offends before
  · obtain ⟨l, line, out | ⟨all, -⟩⟩ := offends
    · have fails : firstFailing (rs.map fun l => !l.ok) = some n := by
        obtain ⟨inside, rfl⟩ := List.getElem?_eq_some_iff.mp line
        rw [firstFailing_records, List.findIdx?_eq_some_iff_getElem]
        refine ⟨inside, ?_, fun j hj => ?_⟩
        · rw [Bool.not_eq_true', ← Bool.not_eq_true, LineWire.ok_iff]
          rintro ⟨function, active⟩
          omega
        · have passes : rs[j].InRange := by
            by_contra bad
            exact before j hj (lineOffends_of_not_inRange (List.getElem?_eq_getElem _) bad)
          simpa using (LineWire.ok_iff _).mpr passes
      simp only [badLine, fails]
    · exact absurd all ranged

/-- Where no line offends every code is in range. -/
theorem inRange_of_not_offends (accepted : ∀ n < rs.length, ¬lineOffends rs n) :
    ∀ l ∈ rs, l.InRange := by
  intro l hl
  obtain ⟨n, inside, rfl⟩ := List.getElem_of_mem hl
  by_contra out
  exact accepted n inside (lineOffends_of_not_inRange (List.getElem?_eq_getElem inside) out)

/-- Where no line offends SET_LINES is accepted (09 R166). -/
theorem badLine_none (accepted : ∀ n < rs.length, ¬lineOffends rs n) : badLine rs = none := by
  have ranged := inRange_of_not_offends accepted
  rw [badLine_of_inRange ranged]
  refine secondNamed_none fun k again => ?_
  have offends := (lineOffends_iff_namedAgain ranged k).mpr again
  obtain ⟨l, line, -⟩ := id offends
  exact accepted k (List.getElem?_eq_some_iff.mp line).1 offends

end records

/-! ### The table that SET_LINES writes (09 R167) -/

theorem getElem?_writeLineTable {rs : List LineWire} {ls : List Line} {n : Nat} {r : LineWire}
    {l : Line} (hr : rs[n]? = some r) (hl : ls[n]? = some l) :
    (writeLineTable rs ls)[n]? = some (r.write l) := by
  rw [writeLineTable, List.getElem?_zipWith, hr, hl]

/-- The part with other line records; nothing else has changed. -/
def State.withLines (ls : List Line) (s : State) : State :=
  { s with lines := { s.lines with lines := ls } }

/-! ### Home in the idle states (02 R37, 05 R101) -/

section idle

variable {s : State} (idle : s.stroke.state.idle = true)

include idle

/-- In the idle states the ram that ceases to be home abandons a running operation. -/
theorem homeChange_lost_of_idle (away : s.home = false) : homeChange true s = abandonCal s := by
  rw [← homeLost_of_idle idle]
  simp [homeChange, away]

/-- In the idle states the ram that reaches home releases a reset hold. -/
theorem homeChange_reached_of_idle (home : s.home = true) :
    homeChange false s = s.holdReleased := by
  rw [← homeReached_of_idle idle]
  simp [homeChange, home]

/-- An event of home keeps the idle states. -/
theorem homeChange_stroke_of_idle (before : Bool) : (homeChange before s).stroke = s.stroke := by
  rcases homeChange_cases before s with ⟨-, -, e⟩ | ⟨-, -, e⟩ | ⟨-, e⟩
  · rw [e, homeLost_of_idle idle, abandonCal_stroke]
  · rw [e, homeReached_of_idle idle]
    rfl
  · rw [e]

/-- GUARD halts nothing in the idle states, so that an accepted SET_LINES is an event of home alone
(09 R167). -/
theorem acceptLines_of_idle (rs : List LineWire) :
    acceptLines rs s = homeChange s.home (s.withLines (writeLineTable rs s.lines.lines)) := by
  have unguarded : (homeChange s.home
      (s.withLines (writeLineTable rs s.lines.lines))).stroke.state.guarded = false := by
    rw [homeChange_stroke_of_idle (s := s.withLines (writeLineTable rs s.lines.lines)) idle]
    show s.stroke.state.guarded = false
    cases k : s.stroke.state <;> simp_all [StrokeState.idle, StrokeState.guarded]
  show guardChange s.guardOk (homeChange s.home (s.withLines _)) = _
  rw [guardChange, unguarded, Bool.and_false, if_neg nofun]

end idle

/-! ### SET_LINES by what is found (09 R166) -/

section serveSetLines

variable {s : State} {rs : List LineWire} (eight : rs.length = 8)

include eight

theorem serveSetLines_state (busy : s.stroke.state.idle = false) :
    serveSetLines rs s = (s, .refusal .state) := by
  simp [serveSetLines, lineCountOk, eight, busy]

theorem serveSetLines_field {n : Nat} (idle : s.stroke.state.idle = true)
    (bad : badLine rs = some n) : serveSetLines rs s = (s, .reply .field (u8 n)) := by
  simp [serveSetLines, lineCountOk, eight, idle, bad]

theorem serveSetLines_ok (idle : s.stroke.state.idle = true) (good : badLine rs = none) :
    serveSetLines rs s =
      (homeChange s.home (s.withLines (writeLineTable rs s.lines.lines)), .ok) := by
  simp [serveSetLines, lineCountOk, eight, idle, good, acceptLines_of_idle idle]

end serveSetLines

/-! ### The report of an abandoned operation behind an OK (10 R184, R185, log 8) -/

/-- A running operation has been abandoned and reported (02 R37). -/
theorem abandoned_running {s : State} {r : CalRun} (running : s.cal.run = some r) :
    s.abandoned = State.reported r.abandonedReport
      { s with cal := { s.cal with run := none, switches := [false, false, false, false] } } := by
  simp only [State.abandoned, running]

/-- A report that finds a place stands in the queue or is in transmission. -/
theorem reported_hasReport {s : State} (room : s.link.reports.length < 16) (r : Report) :
    (s.reported r).hasReport r := by
  have fits : s.link.reports.length < Config.reportPlaces := room
  unfold State.reported State.hasReport Link.reported
  cases s.link.sending with
  | some f => exact .inl (by simp [Link.post, fits])
  | none => exact .inr rfl

/-- Whatever the order of an OK and a report, they leave every block but the link as it was, and no
report is lost. -/
theorem answersOk_keeps_reports {kind : Byte} {s u : State} {o : Host.Outcome State Fault Refusal}
    (h : State.answersOk kind s u o) (kept : s.link.sending.isSome = true →
      u.link.sending.isSome = true) :
    ∃ n l, o = .next { u with freeCount := n, link := l } ∧
      ∀ r, u.hasReport r → ({ u with freeCount := n, link := l } : State).hasReport r := by
  obtain ⟨busy, free⟩ := h
  cases sending : s.link.sending with
  | some f =>
    have used := kept (by simp [sending])
    have queued : u.link.heard.sending.isSome = true := used
    refine ⟨_, _, busy (by simp [sending]), fun r has => ?_⟩
    rw [Link.replied, if_pos queued]
    exact has
  | none =>
    obtain ⟨p, first, e | e⟩ := free sending
    · exact ⟨_, _, e, fun r has => has⟩
    · refine ⟨_, _, e, fun r has => .inl ?_⟩
      obtain queued | sent := has
      · exact List.mem_cons_of_mem p queued
      · obtain rfl : p = r := by simpa [first] using sent
        exact List.mem_cons_self

/-- An accepted SET_LINES whose owner leaves the link alone is answered OK over what it leaves. -/
theorem exec_setLines_ok {rs : List LineWire} {s u : State} (serving : s.Serving)
    (served : serveSetLines rs s.heard = (u.heard, .ok)) (link : u.link = s.link)
    (due : u.due = s.due) : exec (.setLines rs) s = .next (u.replied 0x30#8 .ok []) := by
  have answered : serveSetLines rs s.heard = ({ u with link := s.link.heard }, .ok) := by
    rw [served, ← link]
    rfl
  exact request_acts serving rfl answered link (due.trans serving.quiet)

/-- Settles O27, by the lowest line that offends, and by home before the table is written and
after it. -/
theorem setLinesWritesTheTable : Obligations.SetLinesWritesTheTable := by
  refine ⟨fun rs s serving eight => ⟨fun busy => ?_, fun n idle offends before => ?_⟩,
    fun rs s serving eight lines idle good => ?_⟩
  · exact request_read serving rfl (serveSetLines_state (s := s.heard) eight busy)
  · exact request_read serving rfl
      (serveSetLines_field (s := s.heard) eight idle (badLine_some offends before))
  rw [← eight] at good
  refine ⟨writeLineTable rs s.lines.lines, by simp [writeLineTable, eight, lines],
    fun n r l hr hl => ?_, fun t written => ?_⟩
  · have ranged := inRange_of_not_offends good r (List.mem_of_getElem? hr)
    refine ⟨_, getElem?_writeLineTable hr hl, ?_⟩
    rw [LineWire.write_eq ranged]
    exact ⟨LineWire.named_code ranged, rfl, rfl, rfl⟩
  have served : serveSetLines rs s.heard = (homeChange s.home t.heard, .ok) := by
    rw [serveSetLines_ok (s := s.heard) eight idle (badLine_none good), written]
    rfl
  have still : t.heard.stroke.state.idle = true := by rw [written]; exact idle
  have link : t.link = s.link := by rw [written]
  have due : t.due = s.due := by rw [written]
  have cal : t.cal = s.cal := by rw [written]
  refine ⟨fun same => ?_, fun before after none => ?_, fun r before after running => ?_,
    fun before after => ?_⟩
  · rw [homeChange_same (s := t.heard) same] at served
    exact exec_setLines_ok serving served link due
  · have resting : t.heard.cal.run = .none := (congrArg Cal.run cal).trans none
    rw [before, homeChange_lost_of_idle still after, abandonCal_idle resting] at served
    exact exec_setLines_ok serving served link due
  · have runs : t.cal.run = some r := (congrArg Cal.run cal).trans running
    rw [before, homeChange_lost_of_idle still after] at served
    have answers := request_abandons (r := .setLines rs) serving rfl served runs link due
    have left := abandoned_running runs
    obtain ⟨n, l, e, reports⟩ := answersOk_keeps_reports answers fun _ => by
      rw [left]; exact Link.reported_sending _ _
    refine ⟨_, e, ?_⟩
    rw [left] at reports ⊢
    refine ⟨by rw [← cal]; rfl, rfl, ?_⟩
    subst written
    exact ⟨rfl, rfl, rfl, rfl, rfl, rfl, rfl,
      fun room => reports _ (reported_hasReport (by exact room) _)⟩
  · rw [before, homeChange_reached_of_idle still after] at served
    exact exec_setLines_ok (u := t.holdReleased) serving served link due

end Sys2Proof.Machine
end

section
/-! SUPPORT. The stored values and the entries of the lines (09 R164, R168 to R170, R174), and what
a filtered change announces (09 R165, R172, 05 R94). -/

namespace Sys2Proof.Machine

/-! ### WRITE_LINES and READ_LINES (09 R164, R168 to R170) -/

/-- An input line reads at its filtered level (09 R169). -/
theorem lineLevel_input {l : Line} (s : State) (input : l.function.isInput = true) :
    s.lineLevel l = l.filtered := by
  simp [State.lineLevel, State.lineDrive, input]

/-- An output line is driven high where its state and its active level agree (09 R164, R169). -/
theorem lineLevel_output_high {l : Line} (s : State) (output : l.function.isInput = false) :
    (s.lineLevel l == .high) = (s.lineActive l == (l.active == .high)) := by
  simp only [State.lineLevel, State.lineDrive, output, Bool.false_eq_true, if_false]
  cases s.lineActive l <;> cases l.active <;> rfl

/-- The states of BUSY_OUT (09 R170). -/
theorem busy_eq_mem (k : StrokeState) :
    k.busy =
      decide (k ∈ [StrokeState.approach, .capture, .hold, .halted, .retract, .evaluate]) := by
  cases k <;> rfl

/-- The condition of RETRACT_REQ (09 R170). -/
theorem retractRequested_eq (s : State) :
    s.retractRequested = (s.stroke.state == .halted || s.stroke.state == .retract ||
      s.guard.reasons.resetHold) := by
  rw [State.retractRequested]
  cases s.stroke.state <;> rfl

/-- The flags byte of a line, flag by flag (09 R174; bits 4 to 7: log 43). -/
theorem lineEntry_eq (s : State) (l : Line) :
    lineEntry s l = u8 l.function.code ++
      u8 ((if l.active = .high then 1 else 0) + (if s.lineLevel l == .high then 2 else 0) +
        (if s.lineActive l then 4 else 0) + (if l.stored then 8 else 0)) := by
  have active : bit (l.active == .high) = if l.active = .high then 1 else 0 := by simp [bit]
  simp only [lineEntry, active, mul_bit]

/-- Settles O28, by the eight stored values, and by the state and level of each line. -/
theorem linesAreWrittenAndRead : Obligations.LinesAreWrittenAndRead := by
  refine ⟨fun v s serving => ⟨writeStored v s.lines.lines, by simp [writeStored],
    fun n l line => by simp [writeStored, line], ?_⟩, fun s serving => ?_⟩
  · exact request_acts serving rfl rfl rfl serving.quiet
  · refine (request_read (d := linesBody s) serving rfl rfl).trans ?_
    refine congrArg (fun body => Host.Outcome.next (s.replied 0x32#8 .ok body)) ?_
    refine List.flatMap_congr fun l _ => (lineEntry_eq s l).trans ?_
    cases function : l.function
    case generalIn | home | guardInput | maint =>
      rw [lineLevel_input s (by rw [function]; rfl)]
      simp only [State.lineActive, function]
      rfl
    case generalOut | retractReq | passOut | failOut | busyOut =>
      rw [lineLevel_output_high s (by rw [function]; rfl)]
      simp only [State.lineActive, function, retractRequested_eq, busy_eq_mem]

/-! ### A filtered change (09 R165, R172) -/

/-- Line `n` has taken a filtered level; nothing else has changed (09 R165). -/
def State.filteredTo (n : Nat) (l : Line) (level : Level) (s : State) : State :=
  s.withLines (s.lines.lines.set n { l with filtered := level })

section filter

variable {n : Nat} {level : Level} {s : State} {l : Line} (line : s.lines.lines[n]? = some l)

include line

theorem lines_at_eq : s.lines.at n = l := by
  rw [Lines.at, List.getD_eq_getElem?_getD, line]
  rfl

/-- A level already filtered is no change (log 4). -/
theorem lineFilterChange_same (same : l.filtered = level) : lineFilterChange n level s = s := by
  rw [← lines_at_eq line] at same
  exact if_pos same

/-- A new level is an event of home and of GUARD (09 R172). -/
theorem lineFilterChange_new (new : l.filtered ≠ level) :
    lineFilterChange n level s =
      guardChange s.guardOk (homeChange s.home (s.filteredTo n l level)) := by
  rw [← lines_at_eq line] at new ⊢
  exact if_neg new

end filter

namespace State.SentAs

variable {n : Nat} {s t : State} {b : Bool}

/-- What the transmitter chooses has no part in GUARD. -/
theorem guardOk_eq (h : s.SentAs n t) : s.guardOk = t.guardOk := by
  rw [← h.sent]; rfl

/-- GUARD that does not open on a guarded stroke halts nothing (05 R94). -/
theorem guardChange_still (h : s.SentAs n t)
    (still : ¬(b = true ∧ t.guardOk = false ∧ t.stroke.state.guarded = true)) :
    (guardChange b s).SentAs n t := by
  rw [← h.guardOk_eq, ← h.stroke_eq] at still
  obtain ⟨opens, shut, guarded, -⟩ | ⟨-, e⟩ := guardChange_cases b s
  · exact absurd ⟨opens, shut, guarded⟩ still
  · rwa [e]

/-- GUARD that stays as it was halts nothing. -/
theorem guardChange_same (h : s.SentAs n t) (same : t.guardOk = b) :
    (guardChange b s).SentAs n t :=
  h.guardChange_still fun ⟨ok, opens, _⟩ => by simp [ok, opens] at same

/-- GUARD that opens on a guarded stroke halts it (05 R94). -/
theorem guardChange_opens (h : s.SentAs n t) (opens : t.guardOk = false)
    (guarded : t.stroke.state.guarded = true) : guardChange true s = halt .guardOpen s := by
  rw [← h.guardOk_eq] at opens
  rw [← h.stroke_eq] at guarded
  simp [guardChange, opens, guarded]

end State.SentAs

/-- An operation that is abandoned has no part in GUARD. -/
theorem abandoned_guardOk (s : State) : s.abandoned.guardOk = s.guardOk := by
  unfold State.abandoned
  cases s.cal.run <;> rfl

/-- Settles O52, by what the level that is taken does to home and then to GUARD. -/
theorem filteredChangeIsTaken : Obligations.FilteredChangeIsTaken := by
  intro n level s l ready line t
  have shown : t.SentAs 16 t := .of_fed ready.quiet ready.fed
  have taken {m : Nat} {u : State} (new : l.filtered ≠ level)
      (sent : (guardChange s.guardOk (homeChange s.home t)).SentAs m u) :
      exec (.lineFilterChange n level) s = .next u := by
    show live (lineFilterChange n.val level) s = _
    rw [live_ready ready, lineFilterChange_new line new]
    exact congrArg Host.Outcome.next sent.transmit
  have opened (still : t.home = s.home) (ok : s.guardOk = true) (opens : t.guardOk = false)
      (guarded : t.stroke.state.guarded = true) :
      guardChange s.guardOk (homeChange s.home t) = halt .guardOpen t := by
    rw [homeChange_same still, ok, shown.guardChange_opens opens guarded]
  refine ⟨fun same => ?_, fun new still quiet => ?_, fun new still ok opens descends away => ?_,
    fun new still ok opens hold away => ?_, fun new home away guard unready => ?_,
    fun new home away guard state idle sensed ok assigned => ?_,
    fun new away home guard stays => ?_, fun new away home guard returns => ?_⟩
  · have unchanged := lineFilterChange_same line same
    exact (live_unsent ready (by rw [unchanged])).trans (congrArg Host.Outcome.next unchanged)
  · exact taken new ((shown.homeChange_same still).guardChange_still quiet)
  · have halted := shown.halt_descending (n := 14) .guardOpen descends
    rw [if_neg (by rw [still, away]; nofun),
      ← opened still ok opens (guarded_of_descending descends)] at halted
    exact taken new halted
  · have held := shown.halt_hold (n := 14) .guardOpen hold
    rw [if_neg (by rw [still, away]; nofun),
      ← opened still ok opens (congrArg StrokeState.guarded hold)] at held
    exact taken new held
  · have abandons := shown.homeLost_abandons (n := 15) unready
    rw [← shown.homeChange_lost away, ← home] at abandons
    exact taken new (abandons.guardChange_same ((abandoned_guardOk t).trans guard))
  · have starts := shown.homeLost_approaches (n := 15) idle state sensed (guard.trans ok)
      (.inl assigned)
    rw [← shown.homeChange_lost away, ← home] at starts
    exact taken new (starts.guardChange_same guard)
  · have reaches := State.SentAs.homeReached (n := 15) shown
    rw [← shown.homeChange_reached home, ← away,
      if_neg (by simpa using stays)] at reaches
    exact taken new (reaches.guardChange_same guard)
  · have reaches := State.SentAs.homeReached (n := 15) shown
    rw [← shown.homeChange_reached home, ← away, if_pos (by exact returns)] at reaches
    exact taken new (reaches.guardChange_same guard)

end Sys2Proof.Machine
end

section
/-! SUPPORT. What commands make of the queues and the counters of the link, of the stale counter and of
the waiting commands: the operations outside the link post reports and set the watchdog, and the link's
own operations keep its bounds (10 R184, R185, R187, R189, 03 R52). -/

namespace Sys2Proof.Machine

/-! ### What operations outside the link make of it -/

/-- What an operation that sends no reply can make of the link: reports posted, the watchdog timer
and its expiry count set, and the interval of SET_LINK (10 R185, R187, R188). -/
inductive Link.Noted (l : Link) : Link → Prop
  | same : l.Noted l
  | posted {k : Link} (r : Report) : l.Noted k → l.Noted (k.post r)
  | timed {k : Link} (timer : Option Nat) {n : Nat} (count : n = k.expiries ∨ n ≤ 1) :
      l.Noted k → l.Noted { k with watchdog := timer, expiries := n }
  | spaced {k : Link} (n : Nat) : l.Noted k → l.Noted { k with interval := n }

/-- From `o` to `s` the waiting commands are left alone, the link is told reports and times only, and
the stale counter keeps its limit. -/
def State.Noting (o s : State) : Prop :=
  s.pending = o.pending ∧ o.link.Noted s.link ∧ (o.pos.stale ≤ 65535 → s.pos.stale ≤ 65535)

theorem State.Noting.refl (s : State) : s.Noting s := ⟨rfl, .same, id⟩

/-- A choice between two parts that have only noted something. -/
theorem ite_noting {o a b : State} {p : Prop} [Decidable p] (ha : o.Noting a) (hb : o.Noting b) :
    o.Noting (if p then a else b) := by
  split
  · exact ha
  · exact hb

section operations

variable {o s : State} (h : o.Noting s)

include h

theorem State.Noting.onLink {f : Link → Link} (hf : o.link.Noted (f s.link)) :
    o.Noting (s.onLink f) := by
  obtain ⟨pending, -, stale⟩ := h
  exact ⟨pending, hf, stale⟩

theorem State.Noting.link : o.link.Noted s.link := h.2.1

theorem post_noting (r : Report) : o.Noting (post r s) := h.onLink (.posted r h.link)

theorem stopWatchdog_noting : o.Noting (stopWatchdog s) :=
  h.onLink (.timed none (.inl rfl) h.link)

theorem closeCapture_noting : o.Noting (closeCapture s) := by
  rw [closeCapture_eq]; exact h

theorem endStroke_noting : o.Noting (endStroke s) := by
  rw [endStroke_eq]; exact post_noting (by exact h) _

theorem haltedEntry_noting : o.Noting (haltedEntry s) := by
  have closed : o.Noting (if s.stroke.quiet == .expired then closeCapture s else s) :=
    ite_noting (closeCapture_noting h) h
  exact ite_noting (endStroke_noting closed) closed

theorem enterHalted_noting (c : HaltCause) : o.Noting (enterHalted c s) :=
  haltedEntry_noting (post_noting (stopWatchdog_noting (s := enterState .halted s) h) _)

theorem halt_noting (c : HaltCause) : o.Noting (halt c s) := by
  unfold halt
  cases s.stroke.state with
  | approach | capture =>
    exact enterHalted_noting
      (s := addReason .stroke (s.onStroke fun k => { k with outcome := .halt c })) h c
  | hold =>
    exact enterHalted_noting
      (s := s.onStroke fun k => { recordSecondary c k with dwell := none }) h c
  | halted | retract | disarmed | ready | evaluate | complete => exact h

theorem disarm_noting : o.Noting (disarm s) := stopWatchdog_noting (s := enterState .disarmed s) h

theorem lockoutInReady_noting (c : LockoutCause) : o.Noting (lockoutInReady c s) :=
  ite_noting (post_noting (disarm_noting h) _) h

theorem lockoutCause_noting (c : LockoutCause) (segment : Option Nat) :
    o.Noting (lockoutCause c segment s) := by
  cases latched : s.guard.lockout.latched with
  | true => rw [lockoutCause_latched latched]; exact h
  | false =>
    rw [lockoutCause_cleared latched, addReason_eq]
    exact post_noting (lockoutInReady_noting (by exact h) c) _

theorem giveApproachCauses_noting : o.Noting (giveApproachCauses s) := by
  have fold : ∀ (cs : List HaltCause) (u : State), o.Noting u →
      o.Noting (cs.foldl (fun t c => halt c t) u) := by
    intro cs
    induction cs with
    | nil => exact fun u hu => hu
    | cons c cs ih => exact fun u hu => ih _ (halt_noting hu c)
  exact fold _ _ (ite_noting (a := s.tickFree) h h)

/-- The watchdog starts at the entry into APPROACH (10 R187). -/
theorem watchdogApproach_noted : o.link.Noted (watchdogApproach s.link) := by
  unfold watchdogApproach
  split
  · exact .timed none (.inl rfl) h.link
  · exact .timed _ (.inr (Nat.zero_le 1)) h.link

theorem strokeStart_noting : o.Noting (strokeStart s) := by
  rw [strokeStart_eq]
  have approaches := h.onLink (f := watchdogApproach) (watchdogApproach_noted h)
  exact giveApproachCauses_noting (post_noting (by exact approaches) _)

theorem abandonCal_noting : o.Noting (abandonCal s) := by
  cases running : s.cal.run with
  | none => rw [abandonCal_idle running]; exact h
  | some r => rw [abandonCal_running running]; exact post_noting (by exact h) _

theorem homeChange_noting (before : Bool) : o.Noting (homeChange before s) := by
  rcases homeChange_cases before s with ⟨-, -, e⟩ | ⟨-, -, e⟩ | ⟨-, e⟩ <;> rw [e]
  · have abandoned := abandonCal_noting h
    exact ite_noting (strokeStart_noting abandoned) abandoned
  · exact ite_noting (endStroke_noting (s := removeReason .resetHold s) h) h
  · exact h

theorem guardChange_noting (before : Bool) : o.Noting (guardChange before s) := by
  rcases guardChange_cases before s with ⟨-, -, -, e⟩ | ⟨-, e⟩ <;> rw [e]
  · exact halt_noting h _
  · exact h

/-! ### Stations -/

theorem dwellExpired_noting : o.Noting (dwellExpired s) := by
  have retracted := post_noting (closeCapture_noting
    (s := enterState .retract (s.onStroke fun k => { k with dwell := none })) h)
  exact ite_noting (endStroke_noting (retracted _)) (retracted _)

theorem seatAt_noting (station : Nat) : o.Noting (seatAt station s) := by
  unfold seatAt
  extract_lets s1 s2 s3 s4 s5
  have h3 : o.Noting s3 := stopWatchdog_noting (s := s2.onStroke _) h
  have h4 : o.Noting s4 := post_noting h3 _
  have h5 : o.Noting s5 := ite_noting (closeCapture_noting h4) h4
  exact ite_noting (dwellExpired_noting h5) h5

theorem examineLatch_noting (r : Station) : o.Noting (examineLatch r s) :=
  ite_noting (seatAt_noting h _) (ite_noting (halt_noting h _) h)

/-- A latch counts a stale station up to the limit of its counter (03 R52). -/
theorem latchStation_noting (limit : Nat) : o.Noting (latchStation limit s) := by
  unfold latchStation
  extract_lets r s1 s2 s3 s4 s5
  have h2 : o.Noting s2 := by
    obtain ⟨pending, link, stale⟩ := h
    refine ⟨pending, link, fun bound => ?_⟩
    show (if r.stale then satSucc 65535 s.pos.stale else s.pos.stale) ≤ 65535
    split
    · exact satSucc_le _ _
    · exact stale bound
  have h4 : o.Noting s4 := by
    obtain ⟨n, d, counted⟩ := countOvertravel_writes s2
    unfold s4 s3
    rw [counted]; exact h2
  have h5 : o.Noting s5 := ite_noting (closeCapture_noting h4) h4
  exact ite_noting (examineLatch_noting h5 r) h5

theorem latchTest_noting : o.Noting (latchTest s) := by
  unfold latchTest
  split
  · exact h
  · exact ite_noting (latchStation_noting h _) h

theorem countTaken_noting (before wasApproach : Bool) :
    o.Noting (countTaken before wasApproach s) := by
  have changed := homeChange_noting h before
  have entered : o.Noting (captureEntry (homeChange before s)) := by
    rw [captureEntry_eq]; exact post_noting (by exact changed) _
  exact ite_noting (latchTest_noting entered) (latchTest_noting changed)

/-! ### Due steps that send no reply -/

theorem tareCompletion_noting : o.Noting (tareCompletion s) := by
  unfold tareCompletion
  split
  · exact h
  · split
    · exact h
    · exact post_noting (by exact h) _

theorem shuntGroupJudged_noting : o.Noting (shuntGroupJudged s) := by
  unfold shuntGroupJudged
  split
  · exact h
  · split
    · exact h
    · split
      · exact h
      · next rest _ =>
        cases rest with
        | nil => exact post_noting (by exact h) _
        | cons => exact h

theorem overrangeTaken_noting (segment : Nat) : o.Noting (overrangeTaken segment s) := by
  have latched := lockoutCause_noting h .overrange (some segment)
  exact ite_noting (halt_noting latched _) latched

theorem overtravelTaken_noting : o.Noting (overtravelTaken s) :=
  halt_noting (lockoutCause_noting
    (s := s.onGuard fun g => { g with overtravelGiven := true }) h _ _) _

end operations

/-! ### The owners of the requests -/

section owners

variable {o s : State}

theorem ite_answer_noting {p : Prop} [Decidable p] {a b : State × Answer} (ha : o.Noting a.1)
    (hb : o.Noting b.1) : o.Noting (if p then a else b).1 := by
  split
  · exact ha
  · exact hb

variable (h : o.Noting s)

include h

theorem closeCommit_noting (c : Commit) : o.Noting (closeCommit c s) := by
  unfold closeCommit
  split <;> exact h

theorem serveArm_noting : o.Noting (serveArm s).1 := by
  rcases serveArm_cases s with ⟨_, e⟩ | ⟨-, -, -, e⟩ <;> rw [e]
  · exact h
  · have closed : o.Noting (commitClosed s) := by
      unfold commitClosed
      split
      · exact h
      · exact closeCommit_noting h _
    exact closed

theorem serveSetLink_noting (interval : BitVec 16) : o.Noting (serveSetLink interval s).1 :=
  ite_answer_noting h (ite_answer_noting h (h.onLink (.spaced interval.toNat h.link)))

theorem serveSetSense_noting (period : BitVec 16) : o.Noting (serveSetSense period s).1 := by
  refine ite_answer_noting h (ite_answer_noting h ?_)
  split <;> exact h

theorem serveSetSegment_noting (w : SegmentWire) : o.Noting (serveSetSegment w s).1 := by
  refine ite_answer_noting h (ite_answer_noting h ?_)
  split
  · exact h
  · refine ite_answer_noting h ?_
    exact ite_noting (a := ((invalidateResults s).onAcq _).onCal _) h h

theorem serveSetStroke_noting (w : StrokeWire) : o.Noting (serveSetStroke w s).1 := by
  refine ite_answer_noting h ?_
  split
  · exact h
  · unfold acceptParams
    extract_lets t u
    have ht : o.Noting t := h
    have hu : o.Noting u := ite_noting ht ht
    exact homeChange_noting hu _

theorem serveDisarm_noting : o.Noting (serveDisarm s).1 := by
  unfold serveDisarm
  cases s.stroke.state with
  | ready | complete => exact disarm_noting h
  | disarmed | approach | capture | hold | halted | retract | evaluate => exact h

theorem serveAbort_noting : o.Noting (serveAbort s).1 := by
  unfold serveAbort
  cases s.stroke.state with
  | approach | capture | hold => exact halt_noting h _
  | ready => exact disarm_noting h
  | disarmed | halted | retract | evaluate | complete => exact h

theorem serveMapAdd_noting (records : List PinWire) : o.Noting (serveMapAdd records s).1 := by
  refine ite_answer_noting h ?_
  split
  · exact h
  · exact ite_answer_noting h h

theorem serveSetClass_noting (w : ClassWire) : o.Noting (serveSetClass w s).1 := by
  refine ite_answer_noting h ?_
  split
  · exact h
  · exact ite_noting (b := (invalidateResults s).onMap _) h h

theorem serveResultSummary_noting : o.Noting (serveResultSummary s).1 := by
  refine ite_answer_noting h (ite_answer_noting h ?_)
  split <;> exact h

theorem serveSetLines_noting (records : List LineWire) :
    o.Noting (serveSetLines records s).1 := by
  refine ite_answer_noting h (ite_answer_noting h ?_)
  split
  · exact h
  · exact guardChange_noting (homeChange_noting (s := s.onLines _) h _) _

/-- No owner touches the queues, the buffer or the transmitter but to post reports. -/
theorem serve_noting (r : Request) : o.Noting (serve r s).1 := by
  cases r with
  | ping | status | countersRead | toolReset | getStroke | lockoutRead | readLines | snapshot
  | mapBegin | writeLines => exact h
  | getSegment | mapRead | getClass | profileRead => exact ite_answer_noting h h
  | mapCommit => exact ite_answer_noting h (ite_answer_noting h h)
  | tare | resultRead =>
    exact ite_answer_noting h (ite_answer_noting h (ite_answer_noting h h))
  | shuntCheck | lockoutClear =>
    exact ite_answer_noting h
      (ite_answer_noting h (ite_answer_noting h (ite_answer_noting h h)))
  | setLink interval => exact serveSetLink_noting h interval
  | setSense period => exact serveSetSense_noting h period
  | setSegment w => exact serveSetSegment_noting h w
  | setStroke w => exact serveSetStroke_noting h w
  | arm => exact serveArm_noting h
  | disarm => exact serveDisarm_noting h
  | abort => exact serveAbort_noting h
  | mapAdd records => exact serveMapAdd_noting h records
  | setClass w => exact serveSetClass_noting h w
  | resultSummary => exact serveResultSummary_noting h
  | setLines records => exact serveSetLines_noting h records

end owners

/-! ### The events that send no reply -/

section events

variable {o s : State} (h : o.Noting s)

include h

theorem watchdogExpiry_noting : o.Noting (watchdogExpiry s) := by
  unfold watchdogExpiry
  split
  · exact h
  · exact ite_noting (post_noting (h.onLink (.timed _ (.inr (Nat.le_refl 1)) h.link)) _)
      (halt_noting (stopWatchdog_noting h) _)

/-- A change of one phase leaves the stale counter. -/
theorem flip_noting (ph : Phase) : o.Noting (s.onPos (Pos.flip ph)) := by
  cases ph <;> exact h

theorem encoderFaultTaken_noting (e : EncoderEvent) : o.Noting (encoderFaultTaken e s) := by
  unfold encoderFaultTaken
  extract_lets before k u v w
  have posted : o.Noting v := post_noting (s := u) h _
  have halted : o.Noting w := ite_noting (halt_noting posted _) posted
  exact homeChange_noting halted _

theorem encoderFault_noting (t : Transition) : o.Noting (encoderFault t s) := by
  cases t with
  | both => exact encoderFaultTaken_noting (flip_noting (flip_noting h .a) .b) _
  | one ph => exact ite_noting (encoderFaultTaken_noting (flip_noting h ph) _) h

theorem encoderCount_noting (ph : Phase) : o.Noting (encoderCount ph s) := by
  refine ite_noting (encoderFaultTaken_noting (flip_noting h ph) _) ?_
  rw [counted_eq]
  have counted : o.Noting (s.counted ph) := by cases ph <;> exact h
  exact countTaken_noting counted _ _

theorem referencePulse_noting : o.Noting (referencePulse s) := by
  unfold referencePulse
  extract_lets before t u
  have ht : o.Noting t := h
  have hu : o.Noting u := ite_noting (post_noting ht _) ht
  exact homeChange_noting hu _

theorem dwellExpiry_noting : o.Noting (dwellExpiry s) :=
  ite_noting (dwellExpired_noting h) h

theorem quietTimerExpiry_noting : o.Noting (quietTimerExpiry s) :=
  ite_noting (ite_noting (a := s.onStroke _) h (closeCapture_noting h)) h

theorem evaluationCompletion_noting : o.Noting (evaluationCompletion s) := by
  unfold evaluationCompletion
  split
  · exact h
  · exact post_noting (by exact h) _

theorem stopNSenseChange_noting (level : Level) : o.Noting (stopNSenseChange level s) := by
  refine ite_noting h ?_
  cases level with
  | low => exact ite_noting (halt_noting (s := s.onGuard _) h _) h
  | high => exact h

theorem readbackTimerExpiry_noting : o.Noting (readbackTimerExpiry s) :=
  ite_noting (halt_noting (lockoutCause_noting
    (s := s.onGuard fun g => { g with readback := .expired }) h _ _) _) h

theorem lineFilterChange_noting (line : Nat) (level : Level) :
    o.Noting (lineFilterChange line level s) :=
  ite_noting h (guardChange_noting (homeChange_noting (s := s.onLines _) h _) _)

theorem publishRound_noting (set : SampleSet) : o.Noting (publishRound set s) := by
  unfold publishRound
  extract_lets before s1 examines s2 s3 bottoms overs trips t
  have h2 : o.Noting s2 := ite_noting (a := s1.onGuard _) h h
  exact ite_noting (a := t.tickFree) h2 h2

end events

/-! ### The bounds of the link

Definitions that unfold to the fields they read: for an operation that writes none of them, what holds
before it and after it is one proposition. -/

/-- The queues and counters of the link lie within their places (10 R184, R185, R187, R189). -/
def Link.Counts (l : Link) : Prop :=
  l.replies.length ≤ 4 ∧ l.reports.length ≤ 16 ∧ l.crcErrors ≤ 65535 ∧ l.timeouts ≤ 65535 ∧
    l.overruns ≤ 65535 ∧ l.lost ≤ 65535 ∧ l.expiries ≤ 1

/-- A free transmitter has nothing to send, but for a tool reset that is due (10 R184, R191). -/
def State.Fed (s : State) : Prop := Due.toolReset ∈ s.due ∨ s.link.fed

/-- The waiting commands are `q`, and where `c` holds, the link and the stale counter are within their
bounds. -/
def State.Tallied (q : List Instr) (c : Prop) (s : State) : Prop :=
  s.pending = q ∧ (c → s.link.Counts ∧ s.pos.stale ≤ 65535)

/-- The bounds of the claims, as what the operations keep and what the transmitter restores. -/
theorem linkBounds_iff (s : State) :
    s.LinkBounds ↔ (s.link.Counts ∧ s.pos.stale ≤ 65535) ∧ s.Fed := by
  constructor
  · rintro ⟨replies, reports, crcErrors, timeouts, overruns, lost, stale, expiries, fed⟩
    exact ⟨⟨⟨replies, reports, crcErrors, timeouts, overruns, lost, expiries⟩, stale⟩, fed⟩
  · rintro ⟨⟨⟨replies, reports, crcErrors, timeouts, overruns, lost, expiries⟩, stale⟩, fed⟩
    exact ⟨replies, reports, crcErrors, timeouts, overruns, lost, stale, expiries, fed⟩

/-- A full report queue gives up a report for the one it takes, and no counter passes its limit
(10 R185). -/
theorem Link.Counts.post {l : Link} (h : l.Counts) (r : Report) : (l.post r).Counts := by
  obtain ⟨replies, reports, crcErrors, timeouts, overruns, lost, expiries⟩ := h
  rcases Link.post_cases r l with ⟨room, e⟩ | ⟨-, -, minor, e⟩ | ⟨-, -, e⟩ <;> rw [e]
  · refine ⟨replies, ?_, crcErrors, timeouts, overruns, lost, expiries⟩
    simpa using room
  · refine ⟨replies, ?_, crcErrors, timeouts, overruns, satSucc_le _ _, expiries⟩
    obtain ⟨old, held, isMinor⟩ := List.any_eq_true.mp minor
    have given := List.length_eraseP_of_mem held isMinor
    have filled := List.length_pos_of_mem held
    simp only [List.length_append, List.length_singleton, given]
    omega
  · exact ⟨replies, reports, crcErrors, timeouts, overruns, satSucc_le _ _, expiries⟩

theorem Link.Counts.noted {l k : Link} (h : l.Counts) (noted : l.Noted k) : k.Counts := by
  induction noted with
  | same => exact h
  | posted r _ ih => exact ih.post r
  | timed _ count _ ih =>
    obtain ⟨replies, reports, crcErrors, timeouts, overruns, lost, expiries⟩ := ih
    refine ⟨replies, reports, crcErrors, timeouts, overruns, lost, ?_⟩
    rcases count with rfl | few
    · exact expiries
    · exact few
  | spaced _ _ ih => exact ih

/-- The frame in transmission is not touched by reports and times. -/
theorem Link.Noted.sending {l k : Link} (noted : l.Noted k) : k.sending = l.sending := by
  induction noted with
  | same => rfl
  | posted r _ ih => rw [Link.post_frame]; exact ih
  | timed _ _ _ ih => exact ih
  | spaced _ _ ih => exact ih

/-! ### The link's own operations -/

section tallied

variable {q : List Instr} {c : Prop} {s : State}

/-- A choice between two tallied parts is tallied. -/
theorem ite_tallied {p : Prop} [Decidable p] {a b : State} (ha : a.Tallied q c)
    (hb : b.Tallied q c) : (if p then a else b).Tallied q c := by
  split
  · exact ha
  · exact hb

variable (h : s.Tallied q c)

include h

theorem State.Tallied.noted {t : State} (noted : s.Noting t) : t.Tallied q c := by
  obtain ⟨pending, link, stale⟩ := noted
  refine ⟨pending.trans h.1, fun hc => ?_⟩
  obtain ⟨counts, bound⟩ := h.2 hc
  exact ⟨counts.noted link, stale bound⟩

/-- A write of the link that keeps its bounds. -/
theorem State.Tallied.onLink {f : Link → Link} (hf : s.link.Counts → (f s.link).Counts) :
    (s.onLink f).Tallied q c := by
  obtain ⟨pending, bounds⟩ := h
  refine ⟨pending, fun hc => ?_⟩
  obtain ⟨counts, stale⟩ := bounds hc
  exact ⟨hf counts, stale⟩

/-- A reply is appended where there is a place for it (10 R182). -/
theorem enqueue_tallied (r : Reply) (room : s.link.replyRoom = true) :
    (s.onLink (Link.enqueue r)).Tallied q c := by
  refine h.onLink fun counts => ?_
  obtain ⟨-, rest⟩ := counts
  refine ⟨?_, rest⟩
  have place : s.link.replies.length < 4 := by simpa [Link.replyRoom] using room
  simpa [Link.enqueue] using place

theorem placeNow_tallied (w : Waiting) (room : s.link.replyRoom = true) :
    (placeNow w s).Tallied q c := by
  cases w with
  | made r => exact enqueue_tallied h r room
  | counters =>
    obtain ⟨pending, bounds⟩ := enqueue_tallied h (countersReply s) room
    refine ⟨pending, fun hc => ?_⟩
    obtain ⟨⟨replies, reports, -, -, -, -, expiries⟩, -⟩ := bounds hc
    exact ⟨⟨replies, reports, Nat.zero_le _, Nat.zero_le _, Nat.zero_le _, Nat.zero_le _, expiries⟩,
      Nat.zero_le _⟩

theorem place_tallied (w : Waiting) : (place w s).Tallied q c := by
  unfold place
  split
  · next room => exact placeNow_tallied h w room
  · exact h

theorem answer_tallied (kind : Byte) (a : Answer) : (answer kind a s).Tallied q c := by
  cases a
  case reply | counters | toolReset => exact place_tallied h _
  case snapshot | mapCommit => exact h

theorem reloadWatchdog_tallied : (reloadWatchdog s).Tallied q c :=
  h.onLink fun counts => by
    obtain ⟨replies, reports, crcErrors, timeouts, overruns, lost, -⟩ := counts
    exact ⟨replies, reports, crcErrors, timeouts, overruns, lost, Nat.zero_le _⟩

theorem overrun_tallied (kind : Byte) : (overrun kind s).Tallied q c := by
  have counted : (s.onLink fun l => { l with overruns := satSucc 65535 l.overruns }).Tallied q c :=
    h.onLink fun counts => by
      obtain ⟨replies, reports, crcErrors, timeouts, -, rest⟩ := counts
      exact ⟨replies, reports, crcErrors, timeouts, satSucc_le _ _, rest⟩
  unfold overrun
  rw [State.onLink]
  extract_lets l
  split
  · next room => exact enqueue_tallied counted (replyTo kind .busy []) room
  · exact counted

theorem offer_tallied (kind : Byte) {serve : State → State × Answer}
    (served : ∀ u : State, u.Noting (serve u).1) : (offer kind serve s).Tallied q c := by
  unfold offer
  extract_lets u
  have heard : u.Tallied q c := reloadWatchdog_tallied h
  cases u.link.buffer with
  | empty => exact answer_tallied (heard.noted (served u)) _ _
  | snapshot | mapCommit | toolReset | waiting => exact overrun_tallied heard _

/-- A frame leaves its queue for the transmitter (10 R184). -/
theorem transmit_tallied (together : Bool) : (transmit together s).Tallied q c := by
  have reply (r : Reply) (rest : List Reply) (queued : s.link.replies = r :: rest) :
      (sendReply r rest s).Tallied q c := by
    have sent : (s.onLink fun l => { l with replies := rest, sending := some (.reply r) }).Tallied
        q c := h.onLink fun ⟨replies, counts⟩ => by
      rw [queued, List.length_cons] at replies
      exact ⟨Nat.le_of_succ_le replies, counts⟩
    exact ite_tallied (a := State.withDue _ _) sent sent
  have report (p : Report) (rest : List Report) (queued : s.link.reports = p :: rest) :
      (sendReport p rest s).Tallied q c := h.onLink fun ⟨replies, reports, counts⟩ => by
    rw [queued, List.length_cons] at reports
    exact ⟨replies, Nat.le_of_succ_le reports, counts⟩
  unfold transmit
  split
  · exact h
  · refine ite_tallied h ?_
    cases replies : s.link.replies with
    | nil =>
      cases reports : s.link.reports with
      | nil => exact h
      | cons p ps => exact report p ps reports
    | cons r rs =>
      cases reports : s.link.reports with
      | nil => exact reply r rs replies
      | cons p ps =>
        exact ite_tallied (ite_tallied (a := (sendReport p ps s).tickFree) (report p ps reports)
          (reply r rs replies)) (reply r rs replies)

theorem resetBuffer_tallied : (resetBuffer s).Tallied q c := by
  unfold resetBuffer
  cases s.link.buffer with
  | empty | snapshot | mapCommit | toolReset => exact h
  | waiting w =>
    cases w with
    | counters => exact place_tallied h _
    | made r => exact ite_tallied h (place_tallied h _)

/-- A tool reset empties both queues and keeps the counters (10 R193). -/
theorem toolReset_tallied : (toolReset s).Tallied q c := by
  unfold toolReset
  extract_lets prior atHome s1 s2 s3 s4 s5 s6 s7
  have h2 : s2.Tallied q c := h
  have h4 : s4.Tallied q c := h2
  have h6 : s6.Tallied q c := h4
  have emptied : (s6.onLink Link.toolReset).Tallied q c := h6.onLink fun counts => by
    obtain ⟨-, -, crcErrors, timeouts, overruns, lost, -⟩ := counts
    exact ⟨Nat.zero_le _, Nat.zero_le _, crcErrors, timeouts, overruns, lost, Nat.zero_le _⟩
  have h7 : s7.Tallied q c := resetBuffer_tallied emptied
  exact h7.noted (post_noting (.refl s7) _)

/-! ### The steps that are due -/

theorem answerSnapshot_tallied : (answerSnapshot s).Tallied q c := by
  unfold answerSnapshot
  cases s.link.buffer with
  | snapshot => exact place_tallied h _
  | empty | mapCommit | toolReset | waiting => exact h

theorem deferredReplyTaken_tallied : (deferredReplyTaken s).Tallied q c := by
  unfold deferredReplyTaken
  cases s.link.buffer with
  | waiting w => exact place_tallied h _
  | empty | snapshot | mapCommit | toolReset => exact h

theorem takeDue_tallied (d : Due) : (takeDue d s).Tallied q c := by
  have noted := State.Noting.refl s
  cases d with
  | settleEnd | shuntWaitEnd => exact h
  | tripSegment | tripTotal =>
    exact h.noted (halt_noting
      (s := s.onGuard fun g => { g with tripGiven := true, trip := some _ }) noted _)
  | overrange segment => exact h.noted (overrangeTaken_noting noted segment)
  | bottomRail => exact h.noted (post_noting (s := s.onAcq _) noted _)
  | tareCompletion => exact h.noted (tareCompletion_noting noted)
  | shuntGroupJudged => exact h.noted (shuntGroupJudged_noting noted)
  | overtravel => exact h.noted (overtravelTaken_noting noted)
  | deferredReply => exact deferredReplyTaken_tallied h
  | toolReset => exact toolReset_tallied h
  | snapshotReply => exact answerSnapshot_tallied h

end tallied

theorem takeThrough_tallied {q : List Instr} {c : Prop} {s : State} (wanted : Due → Bool)
    (ds : List Due) (h : s.Tallied q c) : (takeThrough wanted ds s).Tallied q c := by
  induction ds generalizing s with
  | nil => exact h
  | cons d ds ih =>
    have taken : (runDue d s).Tallied q c :=
      transmit_tallied (takeDue_tallied (s := s.withDue s.due.tail) h d) true
    exact ite_tallied taken (ih taken)

/-! ### The transmitter is never free while a frame waits (10 R184) -/

/-- What the transmitter has chosen leaves it nothing to choose, unless a tool reset is due. -/
theorem transmit_leaves_fed (together : Bool) (s : State) : (transmit together s).Fed := by
  have busy {t : State} {f : OutFrame} (sending : t.link.sending = some f) : t.Fed :=
    .inr fun free => absurd (sending.symm.trans free) nofun
  have reply (r : Reply) (rest : List Reply) : (sendReply r rest s).Fed := by
    refine busy (f := .reply r) ?_
    unfold sendReply
    extract_lets u
    split <;> rfl
  have report (p : Report) (rest : List Report) : (sendReport p rest s).Fed := busy rfl
  unfold transmit
  split
  · next f sending => exact busy sending
  · split
    · next due => exact .inl (by simpa using due)
    · cases replies : s.link.replies with
      | nil =>
        cases reports : s.link.reports with
        | nil => exact .inr fun _ => ⟨replies, reports⟩
        | cons p ps => exact report p ps
      | cons r rs =>
        cases reports : s.link.reports with
        | nil => exact reply r rs
        | cons p ps =>
          dsimp only
          split
          · split
            · exact report p ps
            · exact reply r rs
          · exact reply r rs

theorem takeThrough_leaves_fed {s : State} (wanted : Due → Bool) (ds : List Due) (h : s.Fed) :
    (takeThrough wanted ds s).Fed := by
  induction ds generalizing s with
  | nil => exact h
  | cons d ds ih =>
    have taken : (runDue d s).Fed := transmit_leaves_fed _ _
    unfold takeThrough
    split
    · exact taken
    · exact ih taken

/-! ### The events that take bytes and send replies -/

section events

variable {q : List Instr} {c : Prop} {s : State} (h : s.Tallied q c)

include h

theorem discardFrame_tallied : (discardFrame s).Tallied q c :=
  h.onLink fun ⟨replies, reports, _, rest⟩ => ⟨replies, reports, satSucc_le _ _, rest⟩

theorem frameComplete_tallied (length : Byte) (taken : List Byte) (received : BitVec 16) :
    (frameComplete length taken received s).Tallied q c := by
  refine ite_tallied ?_ (discardFrame_tallied h)
  unfold offerFrame
  split
  · exact h
  · refine offer_tallied (s := setReceiver .seek s) h _ fun u => ?_
    unfold serveFrame
    split
    · exact serve_noting (.refl u) _
    · exact .refl u
    · exact .refl u

theorem takeByte_tallied (b : Byte) : (takeByte b s).Tallied q c := by
  unfold takeByte
  cases s.link.receiver with
  | seek | body => exact ite_tallied (a := setReceiver _ s) h h
  | header => exact ite_tallied (discardFrame_tallied h) h
  | check length taken first =>
    cases first with
    | none => exact h
    | some a => exact frameComplete_tallied h _ _ _
  | discard => exact h

theorem frameReceived_tallied (check : Byte) : (frameReceived check s).Tallied q c := by
  unfold frameReceived
  cases s.link.receiver with
  | check length taken first =>
    cases first with
    | none => exact h
    | some a => exact frameComplete_tallied h _ _ _
  | seek | header | body | discard => exact h

theorem headerLengthError_tallied (b : Byte) : (headerLengthError b s).Tallied q c := by
  unfold headerLengthError
  cases s.link.receiver with
  | header => exact ite_tallied (discardFrame_tallied h) h
  | seek | body | check | discard => exact h

theorem frameTimeout_tallied : (frameTimeout s).Tallied q c := by
  have counted : (s.onLink fun l =>
      { l with receiver := .seek, timeouts := satSucc 65535 l.timeouts }).Tallied q c :=
    h.onLink fun ⟨replies, reports, crcErrors, _, rest⟩ =>
      ⟨replies, reports, crcErrors, satSucc_le _ _, rest⟩
  unfold frameTimeout
  cases s.link.receiver with
  | header | body | check => exact counted
  | seek | discard => exact h

theorem discardGapEnd_tallied : (discardGapEnd s).Tallied q c := by
  unfold discardGapEnd
  cases s.link.receiver with
  | discard => exact h
  | seek | header | body | check => exact h

theorem frameTransmitted_tallied : (frameTransmitted s).Tallied q c := by
  unfold frameTransmitted
  split
  · exact h
  · exact ite_tallied (a := State.withDue _ _) h
      (transmit_tallied (s := s.onLink fun l => { l with sending := none }) h _)

/-- A break empties the reply queue and counts a report it cuts off (10 R192). -/
theorem linkReset_tallied : (linkReset s).Tallied q c :=
  h.onLink fun ⟨_, reports, crcErrors, timeouts, overruns, lost, expiries⟩ => by
    refine ⟨Nat.zero_le _, reports, crcErrors, timeouts, overruns, ?_, expiries⟩
    dsimp only
    split
    · exact satSucc_le _ _
    · exact lost

theorem commitEnd_tallied : (commitEnd s).Tallied q c := by
  unfold commitEnd
  split
  · exact h
  · next commit _ =>
    have closed : (closeCommit commit s).Tallied q c := h.noted (closeCommit_noting (.refl s) _)
    exact ite_tallied (ite_tallied (place_tallied closed _) closed) h

theorem closeSnapshot_tallied : (closeSnapshot s).Tallied q c := by
  rcases closeSnapshot_cases s with ⟨-, e⟩ | ⟨-, e | e⟩ <;> rw [e]
  · exact answerSnapshot_tallied h
  · exact answerSnapshot_tallied h
  · exact h

theorem roundClose_tallied (bridges : List Int) : (roundClose bridges s).Tallied q c := by
  have settled : (settleRound (sampleSet s.acq bridges) s).Tallied q c := h
  exact closeSnapshot_tallied (ite_tallied settled (h.noted (publishRound_noting (.refl s) _)))

end events

/-! ### Every command -/

section commands

variable {q : List Instr} {c : Prop} {s t : State}

/-- A command whose own effect keeps the tallies keeps them: the due steps before it and the
transmitter after it do. -/
theorem live_tallied {f : State → State} (h : s.Tallied q c)
    (effect : ∀ u : State, u.Tallied q c → (f u).Tallied q c) (e : live f s = .next t) :
    t.Tallied q c := by
  cases e
  exact ite_tallied h (transmit_tallied (effect _ (takeThrough_tallied _ _ h)) true)

/-- A command that sends no reply keeps the tallies. -/
theorem live_tallied_of_noting {f : State → State} (h : s.Tallied q c)
    (noting : ∀ {o u : State}, o.Noting u → o.Noting (f u)) (e : live f s = .next t) :
    t.Tallied q c :=
  live_tallied h (fun u hu => hu.noted (noting (.refl u))) e

theorem liveDue_tallied {wanted : Due → Bool} (h : s.Tallied q c)
    (e : liveDue wanted s = .next t) : t.Tallied q c := by
  cases e
  exact ite_tallied h (takeThrough_tallied _ _ h)

theorem request_tallied (r : Request) (h : s.Tallied q c)
    (e : request r (serve r) s = .next t) : t.Tallied q c :=
  live_tallied h (fun _ hu => offer_tallied hu _ fun u => serve_noting (.refl u) r) e

/-- A live command ends with the transmitter's choice. -/
theorem live_leaves_fed {f : State → State} (h : s.Fed) (e : live f s = .next t) : t.Fed := by
  cases e
  split
  · exact h
  · exact transmit_leaves_fed _ _

theorem liveDue_leaves_fed {wanted : Due → Bool} (h : s.Fed) (e : liveDue wanted s = .next t) :
    t.Fed := by
  cases e
  split
  · exact h
  · exact takeThrough_leaves_fed _ _ h

end commands

/-- The link at the release of power-on reset is within its bounds (10 R193). -/
theorem initial_counts (w : Straps) : (Link.initial w).Counts := by
  refine ⟨?_, ?_, ?_, ?_, ?_, ?_, ?_⟩ <;> exact Nat.zero_le _

/-- Every command keeps the waiting commands and the bounds. -/
theorem exec_tallied {q : List Instr} {p : Prop} (c : Instr) {s t : State} (h : s.Tallied q p)
    (e : exec c s = .next t) : t.Tallied q p := by
  cases c with
  | ping | status | countersRead | setLink | toolReset | setSense | setSegment | getSegment
  | snapshot | tare | shuntCheck | setStroke | getStroke | arm | disarm | abort | lockoutRead
  | lockoutClear | mapBegin | mapAdd | mapCommit | mapRead | setClass | getClass | profileRead
  | resultRead | resultSummary | setLines | writeLines | readLines => exact request_tallied _ h e
  | toolResetActs | deferredReplyPlaced | settleEnd | tripSegment | tripTotal | overrangeEvent
  | bottomRailPair | tareCompletion | shuntWaitEnd | shuntGroupJudged | overtravel =>
    exact liveDue_tallied h e
  | mapCommitCompletion => exact live_tallied h (fun _ => commitEnd_tallied) e
  | frameReceived check => exact live_tallied h (fun _ hu => frameReceived_tallied hu check) e
  | headerLengthError b => exact live_tallied h (fun _ hu => headerLengthError_tallied hu b) e
  | frameTimeout => exact live_tallied h (fun _ => frameTimeout_tallied) e
  | discardGapEnd => exact live_tallied h (fun _ => discardGapEnd_tallied) e
  | frameTransmitted => exact live_tallied h (fun _ => frameTransmitted_tallied) e
  | linkReset => exact live_tallied h (fun _ => linkReset_tallied) e
  | resetNToolReset us =>
    exact live_tallied (f := resetPulse us) h (fun _ hu => ite_tallied (toolReset_tallied hu) hu) e
  | powerOnReset => cases e; exact ⟨h.1, fun _ => ⟨initial_counts _, Nat.zero_le _⟩⟩
  | powerOnResetRelease w =>
    cases e
    exact ite_tallied (a := powerOnRelease w s) ⟨h.1, fun _ => ⟨initial_counts w, Nat.zero_le _⟩⟩
      (takeThrough_tallied _ _ h)
  | conversionRoundClose bridges =>
    exact live_tallied h (fun _ hu => roundClose_tallied hu bridges) e
  | byteTaken b => exact live_tallied h (fun _ hu => takeByte_tallied hu b) e
  | watchdogExpiry => exact live_tallied_of_noting h watchdogExpiry_noting e
  | encoderCount ph => exact live_tallied_of_noting h (fun hu => encoderCount_noting hu ph) e
  | encoderFault tr => exact live_tallied_of_noting h (fun hu => encoderFault_noting hu tr) e
  | referencePulse => exact live_tallied_of_noting h referencePulse_noting e
  | dwellExpiry => exact live_tallied_of_noting h dwellExpiry_noting e
  | quietTimerExpiry => exact live_tallied_of_noting h quietTimerExpiry_noting e
  | evaluationCompletion => exact live_tallied_of_noting h evaluationCompletion_noting e
  | stopNSenseChange level =>
    exact live_tallied_of_noting h (fun hu => stopNSenseChange_noting hu level) e
  | readbackTimerExpiry => exact live_tallied_of_noting h readbackTimerExpiry_noting e
  | lineFilterChange line level =>
    exact live_tallied_of_noting h (fun hu => lineFilterChange_noting hu line.val level) e

/-- After every command a free transmitter has nothing to send, unless a tool reset is due. -/
theorem exec_leaves_fed (c : Instr) {s t : State} (h : s.Fed) (e : exec c s = .next t) : t.Fed := by
  cases c with
  | toolResetActs | deferredReplyPlaced | settleEnd | tripSegment | tripTotal | overrangeEvent
  | bottomRailPair | tareCompletion | shuntWaitEnd | shuntGroupJudged | overtravel =>
    exact liveDue_leaves_fed h e
  | powerOnReset => cases e; exact .inr fun _ => ⟨rfl, rfl⟩
  | powerOnResetRelease w =>
    cases e
    split
    · exact .inr fun _ => ⟨rfl, rfl⟩
    · exact takeThrough_leaves_fed _ _ h
  | _ => exact live_leaves_fed h e

/-- Settles O54: operations and the link's own steps keep the bounds, and the transmitter's choice at
the end of a command leaves it fed. -/
theorem linkBoundsAreKept : Obligations.LinkBoundsAreKept := by
  intro c s t h e
  obtain ⟨counts, fed⟩ := (linkBounds_iff s).mp h
  have tallied : s.Tallied s.pending True := ⟨rfl, fun _ => counts⟩
  exact (linkBounds_iff t).mpr ⟨(exec_tallied c tallied e).2 trivial, exec_leaves_fed c fed e⟩

/-- Every command answers a next state. -/
theorem exec_next (c : Instr) (s : State) : ∃ t, exec c s = .next t := by
  cases c <;> exact ⟨_, rfl⟩

/-- Settles O2: no command is refused, and none touches the queue of waiting commands. -/
theorem everyCommandAnswersANextState : Obligations.EveryCommandAnswersANextState := by
  intro c s
  obtain ⟨t, e⟩ := exec_next c s
  exact ⟨t, e, (exec_tallied c (p := False) ⟨rfl, False.elim⟩ e).1⟩

end Sys2Proof.Machine
end

section
/-! SUPPORT. Requests on the wire (10 R177 to R179, R182): the fields put together again, the decoder
kind by kind, and the lengths it takes. -/

namespace Sys2Proof.Machine

/-! ### Fields (10 R178) -/

theorem word2_bytes (w : BitVec 16) : word2 (w.extractLsb' 8 8) (w.extractLsb' 0 8) = w := by
  rw [word2, BitVec.extractLsb'_append_extractLsb'_eq_extractLsb' (show 8 = 0 + 8 from rfl)]
  exact BitVec.extractLsb'_eq_self

theorem word3_bytes (w : BitVec 24) :
    word3 (w.extractLsb' 16 8) (w.extractLsb' 8 8) (w.extractLsb' 0 8) = w := by
  rw [word3, BitVec.extractLsb'_append_extractLsb'_eq_extractLsb' (show 8 = 0 + 8 from rfl),
    BitVec.extractLsb'_append_extractLsb'_eq_extractLsb' (show 16 = 0 + (8 + 8) from rfl)]
  exact BitVec.extractLsb'_eq_self

theorem word4_bytes (w : BitVec 32) :
    word4 (w.extractLsb' 24 8) (w.extractLsb' 16 8) (w.extractLsb' 8 8) (w.extractLsb' 0 8) = w := by
  rw [word4, BitVec.extractLsb'_append_extractLsb'_eq_extractLsb' (show 8 = 0 + 8 from rfl),
    BitVec.extractLsb'_append_extractLsb'_eq_extractLsb' (show 16 = 0 + (8 + 8) from rfl),
    BitVec.extractLsb'_append_extractLsb'_eq_extractLsb' (show 24 = 0 + (8 + (8 + 8)) from rfl)]
  exact BitVec.extractLsb'_eq_self

/-! ### Records (06 R104, 09 R174) -/

theorem pinRecords_bytes (records : List PinWire) :
    pinRecords (records.flatMap PinWire.bytes) = records := by
  induction records with
  | nil => rfl
  | cons p rest ih =>
    show { pin := word2 _ _, segment := p.segment, engage := word2 _ _, cls := p.cls } ::
      pinRecords (rest.flatMap PinWire.bytes) = p :: rest
    rw [word2_bytes, word2_bytes, ih]

theorem lineRecords_bytes (records : List LineWire) :
    lineRecords (records.flatMap LineWire.bytes) = records := by
  induction records with
  | nil => rfl
  | cons l rest ih => exact congrArg (l :: ·) ih

theorem pinBytes_length (records : List PinWire) :
    (records.flatMap PinWire.bytes).length = 6 * records.length := by
  induction records with
  | nil => rfl
  | cons p rest ih =>
    rw [List.flatMap_cons, List.length_append, ih, List.length_cons,
      show p.bytes.length = 6 from rfl]
    omega

theorem lineBytes_length (records : List LineWire) :
    (records.flatMap LineWire.bytes).length = 2 * records.length := by
  induction records with
  | nil => rfl
  | cons l rest ih =>
    rw [List.flatMap_cons, List.length_append, ih, List.length_cons,
      show l.bytes.length = 2 from rfl]
    omega

/-! ### A request read back from its own payload -/

theorem decodeSegment_bytes (w : SegmentWire) :
    decodeSegment w.bytes = .request (.setSegment w) := by
  show Decoded.request (.setSegment { w with gain := word2 _ _, shuntRef := word2 _ _
                                             tripLimit := word2 _ _ }) = _
  rw [word2_bytes, word2_bytes, word2_bytes]

theorem decodeClass_bytes (w : ClassWire) : decodeClass w.bytes = .request (.setClass w) := by
  show Decoded.request (.setClass { w with absent := word2 _ _, low := word2 _ _
                                           high := word2 _ _ }) = _
  rw [word2_bytes, word2_bytes, word2_bytes]

theorem decodeStroke_bytes (w : StrokeWire) :
    decodeStroke w.bytes = .request (.setStroke w) := by
  simp only [decodeStroke, StrokeWire.bytes, bytes2, bytes3, bytes4, List.cons_append,
    List.nil_append, List.length_cons, List.length_nil, List.getD_cons_zero, List.getD_cons_succ,
    word2_bytes, word3_bytes, word4_bytes, Nat.reduceAdd, if_true]

/-- A MAP_ADD of 1 to 40 records is read back (06 R107). -/
theorem decodeRequest_mapAdd {records : List PinWire} (h : mapAddLengthOk records = true) :
    decodeRequest 0x21#8 (records.flatMap PinWire.bytes) = .request (.mapAdd records) := by
  obtain ⟨least, most⟩ : 1 ≤ records.length ∧ records.length ≤ 40 := by
    simpa [mapAddLengthOk] using h
  refine (if_pos ?_).trans (congrArg (fun l => Decoded.request (.mapAdd l)) (pinRecords_bytes _))
  rw [pinBytes_length]
  omega

/-- A SET_LINES of eight records is read back (09 R174). -/
theorem decodeRequest_setLines {records : List LineWire} (h : lineCountOk records = true) :
    decodeRequest 0x30#8 (records.flatMap LineWire.bytes) = .request (.setLines records) := by
  have eight : records.length = 8 := by simpa [lineCountOk] using h
  refine (if_pos ?_).trans (congrArg (fun l => Decoded.request (.setLines l)) (lineRecords_bytes _))
  rw [lineBytes_length, eight]

/-- Settles O3, request by request: by the fields put together again, and by the number of records
where a request carries some. -/
theorem requestFramesRoundTrip : Obligations.RequestFramesRoundTrip := by
  intro r wellFormed
  cases r with
  | ping | status | countersRead | toolReset | snapshot | tare | getStroke | arm | disarm | abort
  | lockoutRead | lockoutClear | mapBegin | mapCommit | resultSummary | readLines | getSegment
  | shuntCheck | getClass | writeLines => rfl
  | setLink interval =>
    exact congrArg (fun w => Decoded.request (.setLink w)) (word2_bytes interval)
  | setSense period => exact congrArg (fun w => Decoded.request (.setSense w)) (word2_bytes period)
  | mapRead first count =>
    exact congrArg (fun w => Decoded.request (.mapRead w count)) (word2_bytes first)
  | profileRead selector first count =>
    exact congrArg (fun w => Decoded.request (.profileRead selector w count)) (word2_bytes first)
  | resultRead first count =>
    exact congrArg (fun w => Decoded.request (.resultRead w count)) (word2_bytes first)
  | setSegment w => exact decodeSegment_bytes w
  | setStroke w => exact decodeStroke_bytes w
  | setClass w => exact decodeClass_bytes w
  | mapAdd records => exact decodeRequest_mapAdd wellFormed
  | setLines records => exact decodeRequest_setLines wellFormed

/-! ### The lengths of the kinds (10 R179, R182) -/

/-- `d` reads a payload of `n` bytes as a request of `kind`, and any other as a wrong length. -/
def ReadsLength (n : Nat) (kind : Byte) (d : List Byte → Decoded) : Prop :=
  ∀ p, (p.length = n → ∃ r, d p = .request r ∧ r.kind = kind) ∧ (p.length ≠ n → d p = .badLength)

section shapes

variable {kind : Byte}

theorem noPayload_readsLength (r : Request) : ReadsLength 0 r.kind (noPayload r)
  | [] => ⟨fun _ => ⟨r, rfl, rfl⟩, fun other => absurd rfl other⟩
  | _ :: _ => ⟨nofun, fun _ => rfl⟩

theorem one_readsLength {f : Byte → Request} (same : ∀ a, (f a).kind = kind) :
    ReadsLength 1 kind fun p => match p with
      | [a] => .request (f a)
      | _ => .badLength
  | [] => ⟨nofun, fun _ => rfl⟩
  | [a] => ⟨fun _ => ⟨f a, rfl, same a⟩, fun other => absurd rfl other⟩
  | _ :: _ :: _ => ⟨nofun, fun _ => rfl⟩

theorem two_readsLength {f : Byte → Byte → Request} (same : ∀ a b, (f a b).kind = kind) :
    ReadsLength 2 kind fun p => match p with
      | [a, b] => .request (f a b)
      | _ => .badLength
  | [] | [_] => ⟨nofun, fun _ => rfl⟩
  | [a, b] => ⟨fun _ => ⟨f a b, rfl, same a b⟩, fun other => absurd rfl other⟩
  | _ :: _ :: _ :: _ => ⟨nofun, fun _ => rfl⟩

theorem three_readsLength {f : Byte → Byte → Byte → Request} (same : ∀ a b c, (f a b c).kind = kind) :
    ReadsLength 3 kind fun p => match p with
      | [a, b, c] => .request (f a b c)
      | _ => .badLength
  | [] | [_] | [_, _] => ⟨nofun, fun _ => rfl⟩
  | [a, b, c] => ⟨fun _ => ⟨f a b c, rfl, same a b c⟩, fun other => absurd rfl other⟩
  | _ :: _ :: _ :: _ :: _ => ⟨nofun, fun _ => rfl⟩

theorem profileRead_readsLength : ReadsLength 4 0x28#8 (decodeRequest 0x28#8)
  | [] | [_] | [_, _] | [_, _, _] => ⟨nofun, fun _ => rfl⟩
  | [_, _, _, _] => ⟨fun _ => ⟨_, rfl, rfl⟩, fun other => absurd rfl other⟩
  | _ :: _ :: _ :: _ :: _ :: _ => ⟨nofun, fun _ => rfl⟩

theorem decodeSegment_readsLength : ReadsLength 9 0x09#8 decodeSegment
  | [] | [_] | [_, _] | [_, _, _] | [_, _, _, _] | [_, _, _, _, _] | [_, _, _, _, _, _]
  | [_, _, _, _, _, _, _] | [_, _, _, _, _, _, _, _] => ⟨nofun, fun _ => rfl⟩
  | [_, _, _, _, _, _, _, _, _] => ⟨fun _ => ⟨_, rfl, rfl⟩, fun other => absurd rfl other⟩
  | _ :: _ :: _ :: _ :: _ :: _ :: _ :: _ :: _ :: _ :: _ => ⟨nofun, fun _ => rfl⟩

theorem decodeClass_readsLength : ReadsLength 10 0x24#8 decodeClass
  | [] | [_] | [_, _] | [_, _, _] | [_, _, _, _] | [_, _, _, _, _] | [_, _, _, _, _, _]
  | [_, _, _, _, _, _, _] | [_, _, _, _, _, _, _, _] | [_, _, _, _, _, _, _, _, _] =>
    ⟨nofun, fun _ => rfl⟩
  | [_, _, _, _, _, _, _, _, _, _] => ⟨fun _ => ⟨_, rfl, rfl⟩, fun other => absurd rfl other⟩
  | _ :: _ :: _ :: _ :: _ :: _ :: _ :: _ :: _ :: _ :: _ :: _ => ⟨nofun, fun _ => rfl⟩

/-- A decoder that asks for the length reads that length. -/
theorem ite_readsLength {n : Nat} {f : List Byte → Request} (same : ∀ p, (f p).kind = kind) :
    ReadsLength n kind fun p => if p.length = n then .request (f p) else .badLength :=
  fun p => ⟨fun h => ⟨f p, if_pos h, same p⟩, fun h => if_neg h⟩

end shapes

/-- A kind of the table with a fixed payload length reads that length and no other (10 R179). -/
theorem decodeRequest_readsLength {kind : Byte} {n : Nat} (h : (kind.toNat, n) ∈ fixedLengths) :
    ReadsLength n kind (decodeRequest kind) := by
  have at' (k : Nat) (e : kind.toNat = k) : kind = BitVec.ofNat 8 k := by
    rw [← e, BitVec.ofNat_toNat, BitVec.setWidth_eq]
  simp only [fixedLengths, List.mem_cons, Prod.mk.injEq, List.not_mem_nil, or_false] at h
  rcases h with ⟨e, rfl⟩ | ⟨e, rfl⟩ | ⟨e, rfl⟩ | ⟨e, rfl⟩ | ⟨e, rfl⟩ | ⟨e, rfl⟩ | ⟨e, rfl⟩ |
    ⟨e, rfl⟩ | ⟨e, rfl⟩ | ⟨e, rfl⟩ | ⟨e, rfl⟩ | ⟨e, rfl⟩ | ⟨e, rfl⟩ | ⟨e, rfl⟩ | ⟨e, rfl⟩ |
    ⟨e, rfl⟩ | ⟨e, rfl⟩ | ⟨e, rfl⟩ | ⟨e, rfl⟩ | ⟨e, rfl⟩ | ⟨e, rfl⟩ | ⟨e, rfl⟩ | ⟨e, rfl⟩ |
    ⟨e, rfl⟩ | ⟨e, rfl⟩ | ⟨e, rfl⟩ | ⟨e, rfl⟩ | ⟨e, rfl⟩ | ⟨e, rfl⟩ <;> obtain rfl := at' _ e
  · exact noPayload_readsLength .ping
  · exact noPayload_readsLength .status
  · exact noPayload_readsLength .countersRead
  · exact two_readsLength (f := fun a b => .setLink (word2 a b)) fun _ _ => rfl
  · exact noPayload_readsLength .toolReset
  · exact two_readsLength (f := fun a b => .setSense (word2 a b)) fun _ _ => rfl
  · exact decodeSegment_readsLength
  · exact one_readsLength (f := .getSegment) fun _ => rfl
  · exact noPayload_readsLength .snapshot
  · exact noPayload_readsLength .tare
  · exact one_readsLength (f := .shuntCheck) fun _ => rfl
  · exact ite_readsLength fun _ => rfl
  · exact noPayload_readsLength .getStroke
  · exact noPayload_readsLength .arm
  · exact noPayload_readsLength .disarm
  · exact noPayload_readsLength .abort
  · exact noPayload_readsLength .lockoutRead
  · exact noPayload_readsLength .lockoutClear
  · exact noPayload_readsLength .mapBegin
  · exact noPayload_readsLength .mapCommit
  · exact three_readsLength (f := fun a b c => .mapRead (word2 a b) c) fun _ _ _ => rfl
  · exact decodeClass_readsLength
  · exact one_readsLength (f := .getClass) fun _ => rfl
  · exact profileRead_readsLength
  · exact three_readsLength (f := fun a b c => .resultRead (word2 a b) c) fun _ _ _ => rfl
  · exact noPayload_readsLength .resultSummary
  · exact ite_readsLength fun _ => rfl
  · exact one_readsLength (f := .writeLines) fun _ => rfl
  · exact noPayload_readsLength .readLines

/-- MAP_ADD is read from whole records, 1 to 40 of them (06 R107). -/
theorem decodeRequest_mapAdd_eq {kind : Byte} (h : kind.toNat = 0x21) (p : List Byte) :
    decodeRequest kind p =
      if 6 ∣ p.length ∧ 6 ≤ p.length ∧ p.length ≤ 240 then .request (.mapAdd (pinRecords p))
      else .badLength := by
  obtain rfl : kind = 0x21#8 := BitVec.eq_of_toNat_eq h
  exact if_congr (by rw [Nat.dvd_iff_mod_eq_zero]) rfl rfl

/-- A kind outside the table is no request (10 R182). -/
theorem decodeRequest_unassigned {kind : Byte} (h : ∀ n, (kind.toNat, n) ∉ fixedLengths)
    (other : kind.toNat ≠ 0x21) (p : List Byte) : decodeRequest kind p = .badKind := by
  have unlisted : kind.toNat ∉ fixedLengths.map Prod.fst := by
    simpa using fun n => h n
  unfold decodeRequest
  split
  case h_31 => rfl
  case h_20 e => exact absurd e other
  all_goals
    next e => exact absurd (by rw [e]; decide) unlisted

/-- A kind has a fixed length, is that of MAP_ADD, or stands outside the table. -/
theorem kind_cases (kind : Byte) :
    (∃ n, (kind.toNat, n) ∈ fixedLengths) ∨ kind.toNat = 0x21 ∨
      ((∀ n, (kind.toNat, n) ∉ fixedLengths) ∧ kind.toNat ≠ 0x21) := by
  by_cases fixed : ∃ n, (kind.toNat, n) ∈ fixedLengths
  · exact .inl fixed
  · by_cases add : kind.toNat = 0x21
    · exact .inr (.inl add)
    · exact .inr (.inr ⟨not_exists.mp fixed, add⟩)

/-- A request is read from its own kind alone. -/
theorem decodeRequest_kind {kind : Byte} {p : List Byte} {r : Request}
    (h : decodeRequest kind p = .request r) : r.kind = kind := by
  rcases kind_cases kind with ⟨n, fixed⟩ | add | ⟨none, other⟩
  · obtain ⟨hit, miss⟩ := decodeRequest_readsLength fixed p
    by_cases length : p.length = n
    · obtain ⟨q, e, same⟩ := hit length
      obtain rfl := Decoded.request.inj (e.symm.trans h)
      exact same
    · exact absurd ((miss length).symm.trans h) nofun
  · rw [decodeRequest_mapAdd_eq add] at h
    split at h
    · cases h
      exact (BitVec.eq_of_toNat_eq add).symm
    · cases h
  · exact absurd ((decodeRequest_unassigned none other p).symm.trans h) nofun

/-- A wrong length is found in a frame of an assigned kind, which is a request's (10 R179). -/
theorem isRequestKind_of_badLength {kind : Byte} {p : List Byte}
    (h : decodeRequest kind p = .badLength) : isRequestKind kind = true := by
  have range : ∀ k ∈ fixedLengths, 0x01 ≤ k.1 ∧ k.1 ≤ 0x3F := by decide
  have within : 0x01 ≤ kind.toNat ∧ kind.toNat ≤ 0x3F := by
    rcases kind_cases kind with ⟨n, fixed⟩ | add | ⟨none, other⟩
    · exact range _ fixed
    · omega
    · exact absurd ((decodeRequest_unassigned none other p).symm.trans h) nofun
  simpa [isRequestKind] using within

end Sys2Proof.Machine
end

section
/-! SUPPORT. The receiver, byte by byte and by its gaps, and what a good frame does (10 R180 to R182):
its request in an empty buffer, BUSY or nothing in an occupied one. -/

namespace Sys2Proof.Machine

/-! ### One byte in each state of the receiver (10 R180) -/

section receiver

variable {s : State}

theorem setReceiver_ready (h : s.Ready) (r : Receiver) : (setReceiver r s).Ready :=
  ⟨h.runs, h.quiet, h.fed⟩

/-- A receiver that stands where it is put leaves the part as it is. -/
theorem setReceiver_same {r : Receiver} (h : s.link.receiver = r) : setReceiver r s = s := by
  subst h; rfl

theorem setReceiver_setReceiver (r q : Receiver) (s : State) :
    setReceiver r (setReceiver q s) = setReceiver r s := rfl

/-- An effect of a ready part that leaves the link fed is all that its command does. -/
theorem live_fed {f : State → State} {t : State} (h : s.Ready) (e : f s = t) (fed : t.link.fed) :
    live f s = .next t := by
  rw [live_ready h, e, transmit_fed fed]

theorem discardFrame_eq (s : State) : discardFrame s = s.discarded := rfl

theorem badLengthByte_iff (b : Byte) :
    badLengthByte b = true ↔ b.toNat = 0 ∨ 250 ≤ b.toNat := by
  simp [badLengthByte]

/-- A length byte of 1 to 249 opens the body (10 R180). -/
theorem takeHeader_body {b : Byte} (least : 1 ≤ b.toNat) (most : b.toNat ≤ 249) :
    takeHeader b s = setReceiver (.body b []) s := by
  refine if_neg fun bad => ?_
  rcases (badLengthByte_iff b).mp bad with h | h <;> omega

theorem takeHeader_discards {b : Byte} (bad : b.toNat = 0 ∨ 250 ≤ b.toNat) :
    takeHeader b s = s.discarded := if_pos ((badLengthByte_iff b).mpr bad)

/-- A byte of the body is kept, and the check follows the last one (10 R180). -/
theorem takeBody_eq (n : Byte) (taken : List Byte) (b : Byte) (s : State) :
    takeBody n taken b s =
      setReceiver (if taken.length + 1 < n.toNat then .body n (taken ++ [b])
        else .check n (taken ++ [b]) none) s := by
  unfold takeBody
  extract_lets t
  have length : t.length = taken.length + 1 := List.length_append
  rw [length]
  split <;> rfl

theorem frameReceived_check {n a b : Byte} {taken : List Byte}
    (h : s.link.receiver = .check n taken (some a)) :
    frameReceived b s = frameComplete n taken (word2 a b) s := by
  simp [frameReceived, h]

theorem takeByte_check {n a b : Byte} {taken : List Byte}
    (h : s.link.receiver = .check n taken (some a)) : takeByte b s = frameReceived b s := by
  simp [frameReceived, takeByte, h]

end receiver

/-- Settles O6, by the state of the receiver. -/
theorem receiverTakesBytesAndGaps : Obligations.ReceiverTakesBytesAndGaps := by
  refine ⟨fun b s ready => ⟨fun seek => ?_, fun header least most => ?_, fun header bad => ⟨?_, ?_⟩,
      fun n taken body => ?_, fun n taken check => ?_, fun n taken a check => ⟨?_, fun bad => ?_⟩,
      fun discard => ?_⟩,
    fun s ready => ⟨fun idle => ?_, fun unsought undiscarded => ?_, fun discard => ?_,
      fun other => ?_⟩⟩
  · refine live_fed ready (by simp only [takeByte, seek]; rfl) ?_
    split <;> exact ready.fed
  · refine live_fed ready ?_ ready.fed
    simp only [takeByte, header]
    exact takeHeader_body least most
  · refine live_fed ready ?_ ready.fed
    simp only [takeByte, header]
    exact takeHeader_discards bad
  · refine live_fed ready ?_ ready.fed
    simp only [headerLengthError, header]
    exact if_pos ((badLengthByte_iff b).mpr bad)
  · refine live_fed ready ?_ ready.fed
    simp only [takeByte, body]
    exact takeBody_eq n taken b s
  · refine live_fed ready ?_ ready.fed
    simp only [takeByte, check]
    rfl
  · show live (takeByte b) s = live (frameReceived b) s
    rw [live_ready ready, live_ready ready, takeByte_check check]
  · refine live_fed ready ?_ ready.fed
    rw [frameReceived_check check]
    exact if_neg (Ne.symm bad)
  · refine live_fed ready ?_ ready.fed
    simp only [takeByte, discard]
  · refine live_fed ready ?_ ready.fed
    rcases idle with h | h <;> simp only [frameTimeout, h]
  · refine live_fed (t := { s with link := { s.link with
        receiver := .seek, timeouts := satSucc 65535 s.link.timeouts } }) ready ?_ ready.fed
    cases h : s.link.receiver with
    | seek => exact absurd h unsought
    | discard => exact absurd h undiscarded
    | header | body | check => simp only [frameTimeout, h]; rfl
  · refine live_fed ready ?_ ready.fed
    simp only [discardGapEnd, discard]
    rfl
  · refine live_fed ready ?_ ready.fed
    cases h : s.link.receiver with
    | discard => exact absurd h other
    | seek | header | body | check => simp only [discardGapEnd, h]

/-! ### A good frame (10 R181, R182) -/

/-- A request command offers its frame to the receive buffer. -/
theorem exec_request (r : Request) (s : State) : exec r.instr s = request r (serve r) s := by
  cases r <;> rfl

theorem isRequestKind_kind (r : Request) : isRequestKind r.kind = true := by
  cases r <;> rfl

/-- The kind of a reply, by the kind it answers (10 R179, R181). -/
theorem replyKind_eq (kind : Byte) :
    replyKind kind =
      if 1 ≤ kind.toNat ∧ kind.toNat ≤ 0x3F then kind + 0x80#8 else 0x80#8 := by
  simp [replyKind, isRequestKind]

theorem replyKind_kind (r : Request) : replyKind r.kind = r.kind + 0x80#8 :=
  if_pos (isRequestKind_kind r)

section frames

variable {s : State} {n a b kind : Byte} {p : List Byte}

/-- The last check byte of a good frame offers it from SEEK. -/
theorem exec_frameReceived_good (ready : s.Ready)
    (check : s.link.receiver = .check n (kind :: p) (some a)) (good : crc (n :: kind :: p) = a ++ b) :
    exec (.frameReceived b) s = live (offer kind (serveFrame kind p)) (setReceiver .seek s) := by
  have complete : frameReceived b s = offer kind (serveFrame kind p) (setReceiver .seek s) := by
    rw [frameReceived_check check]
    exact if_pos good.symm
  rw [live_ready (setReceiver_ready ready _), ← complete]
  exact live_ready ready _

/-- A good frame of a request does what its command does. -/
theorem exec_frameReceived_request {r : Request} (ready : s.Ready)
    (check : s.link.receiver = .check n (kind :: p) (some a)) (good : crc (n :: kind :: p) = a ++ b)
    (decoded : decodeRequest kind p = .request r) :
    exec (.frameReceived b) s = exec r.instr (setReceiver .seek s) := by
  have served : serveFrame kind p = serve r := by
    funext u
    simp only [serveFrame, decoded]
  rw [exec_frameReceived_good ready check good, exec_request, request, served,
    decodeRequest_kind decoded]

/-- A frame that is answered without an action changes the link alone. -/
theorem live_offer_read {srv : State → State × Answer} {st : Status} {d : List Byte}
    (serving : s.Serving) (served : srv s.heard = (s.heard, .reply st d)) :
    live (offer kind srv) s = .next { s with link := s.link.heard.replied (replyTo kind st d) } := by
  have buffer : s.heard.link.buffer = .empty := serving.buffer
  have reload : reloadWatchdog s = s.heard := rfl
  rw [live_ready serving.toReady]
  simp only [offer, reload, buffer, served, answer]
  rw [place_made (s := s.heard) serving.room rfl, ← buffer]
  exact congrArg Host.Outcome.next (transmit_answered serving.quiet serving.fed serving.buffer)

end frames

/-- Settles O4: the decoder by its kinds and lengths, and the good frame by what is decoded. -/
theorem framesAreDispatchedByKindAndLength : Obligations.FramesAreDispatchedByKindAndLength := by
  refine ⟨fun kind p => ⟨fun n fixed length => ?_, fun n fixed length => ?_, fun add odd => ?_,
      fun none other => decodeRequest_unassigned none other p⟩,
    fun b a n kind p s serving check good => ?_⟩
  · exact (decodeRequest_readsLength fixed p).2 length
  · exact (decodeRequest_readsLength fixed p).1 length
  · rw [decodeRequest_mapAdd_eq add, if_neg odd]
  · have seeking : (setReceiver .seek s).Serving :=
      ⟨setReceiver_ready serving.toReady _, serving.buffer, serving.room⟩
    refine ⟨fun decoded => ?_, fun decoded => ?_, fun r decoded => ?_⟩
    · rw [← replyKind_eq, exec_frameReceived_good serving.toReady check good]
      exact live_offer_read seeking (by simp only [serveFrame, decoded])
    · have kindOk : replyKind kind = kind + 0x80#8 := if_pos (isRequestKind_of_badLength decoded)
      rw [← kindOk, exec_frameReceived_good serving.toReady check good]
      exact live_offer_read seeking (by simp only [serveFrame, decoded]; rfl)
    · exact exec_frameReceived_request serving.toReady check good decoded

/-! ### The bytes of a frame (10 R177, R180) -/

theorem runAll_cons {c : Instr} {rest : List Instr} {s t : State} (h : exec c s = .next t) :
    runAll (c :: rest) s = runAll rest t := by
  simp only [runAll, h]

section bytes

variable {s : State}

/-- A byte that only moves the receiver. -/
theorem exec_byteTaken_moves {b : Byte} {r : Receiver} (ready : s.Ready)
    (e : takeByte b s = setReceiver r s) : exec (.byteTaken b) s = .next (setReceiver r s) :=
  live_fed ready e ready.fed

/-- The bytes of the body are kept in their order until the length is reached. -/
theorem runAll_body {n : Byte} {rest taken : List Byte} {more : List Instr} (ready : s.Ready)
    (filled : rest ≠ []) (length : taken.length + rest.length = n.toNat) :
    runAll (rest.map .byteTaken ++ more) (setReceiver (.body n taken) s) =
      runAll more (setReceiver (.check n (taken ++ rest) none) s) := by
  induction rest generalizing taken with
  | nil => exact absurd rfl filled
  | cons b rest ih =>
    have moves := exec_byteTaken_moves (setReceiver_ready ready (.body n taken))
      (takeBody_eq n taken b _)
    rw [List.map_cons, List.cons_append, runAll_cons moves, setReceiver_setReceiver]
    rw [List.length_cons] at length
    cases rest with
    | nil =>
      rw [if_neg (by simp at length; omega)]
      rfl
    | cons c rest =>
      rw [if_pos (by simp at length; omega), ih nofun (by simpa [Nat.add_assoc, Nat.add_comm 1] using length)]
      simp

/-- A request's payload is no longer than that of 40 pin records (10 R178). -/
theorem payload_length_le {r : Request} (h : r.wellFormed = true) : r.payload.length ≤ 240 := by
  cases r with
  | mapAdd records =>
    have most : 1 ≤ records.length ∧ records.length ≤ 40 := by
      simpa [Request.wellFormed, mapAddLengthOk] using h
    show (records.flatMap PinWire.bytes).length ≤ 240
    rw [pinBytes_length]
    omega
  | setLines records =>
    have eight : records.length = 8 := by simpa [Request.wellFormed, lineCountOk] using h
    show (records.flatMap LineWire.bytes).length ≤ 240
    rw [lineBytes_length, eight]
    decide
  | setStroke w => simp [Request.payload, StrokeWire.bytes, bytes2, bytes3, bytes4]
  | _ => exact Nat.le_of_ble_eq_true rfl

/-- The length byte counts kind and payload (10 R177). -/
theorem lengthByte_toNat {p : List Byte} (h : p.length ≤ 240) :
    (lengthByte p).toNat = p.length + 1 := by
  rw [lengthByte, BitVec.toNat_ofNat]
  exact Nat.mod_eq_of_lt (by omega)

/-- The bytes of a frame up to its check leave kind and payload in CHECK. -/
theorem runAll_frame {kind : Byte} {p : List Byte} {more : List Instr} (ready : s.Ready)
    (seek : s.link.receiver = .seek) (short : p.length ≤ 240) :
    runAll ((0x7E#8 :: lengthByte p :: kind :: p).map .byteTaken ++ more) s =
      runAll more (setReceiver (.check (lengthByte p) (kind :: p) none) s) := by
  have length := lengthByte_toNat short
  have marker : exec (.byteTaken 0x7E#8) s = .next (setReceiver .header s) :=
    exec_byteTaken_moves ready (by simp only [takeByte, seek, if_true])
  have opens : exec (.byteTaken (lengthByte p)) (setReceiver .header s) =
      .next (setReceiver (.body (lengthByte p) []) s) :=
    exec_byteTaken_moves (setReceiver_ready ready .header)
      (takeHeader_body (by omega) (by omega))
  rw [List.map_cons, List.map_cons, List.cons_append, List.cons_append, runAll_cons marker,
    runAll_cons opens]
  exact runAll_body ready nofun (by simp [length])

end bytes

/-- Settles O5: the receiver gathers kind, payload and the first check byte, and the second one offers
a good frame, which is read back as the request. -/
theorem frameBytesRunTheRequest : Obligations.FrameBytesRunTheRequest := by
  intro r s wellFormed ready seek
  have short := payload_length_le wellFormed
  generalize hn : lengthByte r.payload = n
  generalize hc : crc (n :: r.kind :: r.payload) = c
  have bytes : (frameBytes r.kind r.payload).map Instr.byteTaken =
      (0x7E#8 :: n :: r.kind :: r.payload).map .byteTaken ++
        [.byteTaken (c.extractLsb' 8 8), .byteTaken (c.extractLsb' 0 8)] := by
    rw [← hc, ← hn]
    simp [frameBytes, bytes2]
  generalize hu : setReceiver (.check n (r.kind :: r.payload) (some (c.extractLsb' 8 8))) s = u
  have check : u.link.receiver = .check n (r.kind :: r.payload) (some (c.extractLsb' 8 8)) := by
    rw [← hu]; rfl
  have uReady : u.Ready := hu ▸ setReceiver_ready ready _
  have first : exec (.byteTaken (c.extractLsb' 8 8))
      (setReceiver (.check n (r.kind :: r.payload) none) s) = .next u := by
    rw [← hu]
    exact exec_byteTaken_moves (setReceiver_ready ready _) rfl
  have second : exec (.byteTaken (c.extractLsb' 0 8)) u = exec r.instr s := by
    have received : exec (.byteTaken (c.extractLsb' 0 8)) u =
        exec (.frameReceived (c.extractLsb' 0 8)) u := by
      show live (takeByte _) u = live (frameReceived _) u
      rw [live_ready uReady, live_ready uReady, takeByte_check check]
    rw [received, exec_frameReceived_request uReady check (hc.trans (word2_bytes c).symm)
      (requestFramesRoundTrip r wellFormed), ← hu, setReceiver_setReceiver, setReceiver_same seek]
  obtain ⟨t, answered⟩ := exec_next r.instr s
  rw [bytes, ← hn, runAll_frame ready seek short, hn, runAll_cons first,
    runAll_cons (second.trans answered), answered]
  rfl

/-! ### An occupied buffer (10 R181) -/

/-- A reply behind the queue is sent by a free transmitter where no other waits for its place. -/
theorem transmit_enqueued {u : State} {l : Link} {r : Reply} (due : u.due = []) (fed : l.fed)
    (unowed : ∀ w, l.buffer = .waiting w → l.sending ≠ none) :
    transmit true { u with link := { l with replies := l.replies ++ [r] } } =
      { u with link := l.replied r } := by
  cases sending : l.sending with
  | some f =>
    rw [transmit_busy (by simp), Link.replied, sending]
    rfl
  | none =>
    obtain ⟨replies, reports⟩ := fed sending
    have owed : ({ l with replies := [], reports := [], sending := some (.reply r) } :
        Link).replyDue = false := by
      unfold Link.replyDue
      dsimp only
      split
      · next w waits => exact absurd sending (unowed w waits)
      all_goals rfl
    unfold transmit sendReply
    simp [sending, due, replies, reports, State.onLink, owed, Link.replied]

/-- A good frame that meets an occupied buffer is answered BUSY where there is room, and counted. -/
theorem overrun_eq (r : Request) (s : State) :
    overrun r.kind s =
      let l := { s.link with overruns := satSucc 65535 s.link.overruns }
      if s.link.replies.length < 4 then
        { s with link := { l with
            replies := l.replies ++ [.answering r.kind .busy []] } }
      else { s with link := l } := by
  unfold overrun
  simp only [State.onLink, Link.replyRoom, decide_eq_true_eq, Link.enqueue, replyTo, replyKind_kind]
  split <;> rfl

/-- Settles O7, by the room in the reply queue; a reply that waits for a place finds none there. -/
theorem occupiedBufferAnswersBusy : Obligations.OccupiedBufferAnswersBusy := by
  intro r s ready occupied crowded
  have offered : offer r.kind (serve r) s = overrun r.kind s.heard := by
    have reload : reloadWatchdog s = s.heard := rfl
    have same : s.heard.link.buffer = s.link.buffer := rfl
    simp only [offer, reload, same]
    cases buffer : s.link.buffer with
    | empty => exact absurd buffer occupied
    | snapshot | mapCommit | toolReset | waiting => rfl
  have busy (w : Waiting) (waits : s.link.buffer = .waiting w) : s.link.sending ≠ none := by
    intro free
    have four := crowded w waits
    simp [(ready.fed free).1] at four
  rw [exec_request, request, live_ready ready, offered, overrun_eq]
  refine congrArg Host.Outcome.next ?_
  dsimp only
  by_cases room : s.link.replies.length < 4
  · rw [if_pos (show s.heard.link.replies.length < 4 from room), if_pos room]
    exact transmit_enqueued (l := { s.link.heard with overruns := satSucc 65535 s.link.overruns })
      ready.quiet ready.fed busy
  · rw [if_neg (show ¬s.heard.link.replies.length < 4 from room), if_neg room]
    exact transmit_fed ready.fed

end Sys2Proof.Machine
end

section
/-! SUPPORT. The link unit's own requests but TOOL_RESET: PING, STATUS, COUNTERS_READ and SET_LINK
(10 R188 to R190). -/

namespace Sys2Proof.Machine

/-! ### PING and STATUS (10 R190) -/

/-- The silicon revision as one byte (log 9). -/
def revisionLetter : Byte := BitVec.ofNat 8 (65 + Config.revision.val)

theorem revisionLetter_toNat : revisionLetter.toNat = 65 + Config.revision.val := by
  have letters := Config.revision.isLt
  rw [revisionLetter, BitVec.toNat_ofNat]
  exact Nat.mod_eq_of_lt (by omega)

theorem pingBody_eq : pingBody = [0x0C#8, 0x02#8, 0x80#8, revisionLetter] := rfl

theorem permit_iff (s : State) : s.permit = true ↔
    s.stroke.state.permits ∧ s.guardOk ∧ s.guard.sensed = .high ∧
      s.guard.lockout.latched = false := by
  simp [State.permit, and_assoc]

/-- The nine flags of STATUS, each with its weight. -/
theorem statusFlags_eq (s : State) : statusFlags s =
    (if s.pos.referenced then 1 else 0) + (if s.cal.tareValid then 2 else 0) +
      (if s.map.valid then 4 else 0) + (if s.stroke.paramsValid then 8 else 0) +
      (if s.guard.lockout.latched then 16 else 0) + (if s.home then 32 else 0) +
      (if s.guardOk then 64 else 0) + (if s.guard.sensed = .high then 128 else 0) +
      (if s.stroke.state.permits ∧ s.guardOk ∧ s.guard.sensed = .high ∧
        s.guard.lockout.latched = false then 256 else 0) := by
  simp only [statusFlags, mul_bit, permit_iff, beq_iff_eq]
  rfl

/-- The code of the running operation: the evaluation's, else that of the calibration job. -/
theorem operationCode_eq (s : State) : operationCode s =
    if s.engine.run.isSome then 3 else
      match s.cal.run.map CalRun.job with
      | none => 0
      | some .tare => 1
      | some (.shunt _) => 2 := by
  unfold operationCode
  cases s.engine.run with
  | some i => rfl
  | none =>
    cases s.cal.run with
    | none => rfl
    | some r => cases h : r.job <;> simp [h]

/-- Settles O8: PING's four bytes, and the fields of STATUS one by one. -/
theorem pingAndStatusAnswer : Obligations.PingAndStatusAnswer := by
  refine ⟨fun s serving => ⟨revisionLetter, ?_, ?_, ?_⟩, fun s serving => ?_⟩
  · rw [revisionLetter_toNat]; omega
  · have letters := Config.revision.isLt
    rw [revisionLetter_toNat]; omega
  · rw [← pingBody_eq]
    exact request_read (r := .ping) serving rfl rfl
  · have answered : exec .status s = .next (s.replied 0x02#8 .ok (statusBody s)) :=
      request_read (r := .status) serving rfl rfl
    rw [statusBody, statusFlags_eq, operationCode_eq, Acq.notOk, List.countP_eq_length_filter]
      at answered
    exact answered

/-! ### COUNTERS_READ (10 R189) -/

/-- The reply of COUNTERS_READ, field by field. -/
theorem countersReply_eq (s : State) : countersReply s =
    { kind := 0x83#8, status := .ok, resets := false
      detail := u16 s.link.crcErrors ++ u16 s.link.timeouts ++ u16 s.link.overruns ++
        u16 s.link.lost ++ u16 s.pos.stale } := rfl

/-- A COUNTERS_READ that finds a place reads the counters there and clears them (10 R189). -/
theorem place_counters {s : State} (room : s.link.replies.length < 4) :
    place .counters s = { s with
      pos := { s.pos with stale := 0 }
      link := { s.link with
        buffer := .empty, crcErrors := 0, timeouts := 0, overruns := 0, lost := 0
        replies := s.link.replies ++ [countersReply s] } } := by
  simp [place, Link.replyRoom, room, placeNow, setBuffer, clearCounters, State.onLink, State.onPos,
    Link.enqueue]

theorem transmit_counters {s : State} (room : s.link.replies.length < 4) (due : s.due = [])
    (fed : s.link.fed) :
    transmit true (place .counters s) = { s with
      pos := { s.pos with stale := 0 }
      link := ({ s.link with
        buffer := .empty, crcErrors := 0, timeouts := 0, overruns := 0, lost := 0 } :
          Link).replied (countersReply s) } := by
  rw [place_counters room]
  exact transmit_enqueued (u := { s with pos := { s.pos with stale := 0 } })
    (l := { s.link with
      buffer := .empty, crcErrors := 0, timeouts := 0, overruns := 0, lost := 0 }) due fed nofun

theorem exec_countersRead {s : State} (serving : s.Serving) :
    exec .countersRead s = .next { s with
      pos := { s.pos with stale := 0 }
      link := ({ s.link.heard with
        buffer := .empty, crcErrors := 0, timeouts := 0, overruns := 0, lost := 0 } :
          Link).replied (countersReply s) } := by
  have offered : offer Request.countersRead.kind serveCountersRead s = place .counters s.heard := by
    have buffer : s.heard.link.buffer = .empty := serving.buffer
    have reload : reloadWatchdog s = s.heard := rfl
    simp only [offer, reload, buffer]
    rfl
  refine (live_ready serving.toReady _).trans (congrArg Host.Outcome.next ?_)
  rw [offered]
  exact transmit_counters (s := s.heard) serving.room serving.quiet serving.fed

/-! ### SET_LINK (10 R188) -/

theorem descending_iff (k : StrokeState) :
    k.descending = true ↔ k = .approach ∨ k = .capture := by
  cases k <;> simp [StrokeState.descending]

theorem intervalOk_iff (w : BitVec 16) :
    intervalOk w = true ↔ w.toNat = 0 ∨ (50 ≤ w.toNat ∧ w.toNat ≤ 2000) := by
  simp [intervalOk]

/-- A field of 16 bits is sent as it was received. -/
theorem u16_toNat (w : BitVec 16) : u16 w.toNat = bytes2 w := by
  rw [u16, BitVec.ofNat_toNat, BitVec.setWidth_eq]

section setLink

variable {s : State} {w : BitVec 16}

theorem serveSetLink_state (h : s.stroke.state.descending = true) :
    serveSetLink w s = (s, .refusal .state) := if_pos h

theorem serveSetLink_field (h : s.stroke.state.descending = false) (bad : intervalOk w = false) :
    serveSetLink w s = (s, .refusal .field) := by
  simp [serveSetLink, h, bad]

theorem serveSetLink_ok (h : s.stroke.state.descending = false) (good : intervalOk w = true) :
    serveSetLink w s =
      ({ s with link := { s.link with interval := w.toNat } }, .okWith (bytes2 w)) := by
  simp [serveSetLink, h, good, State.onLink, u16_toNat]

end setLink

/-- Settles O9: COUNTERS_READ as it is placed at once, and SET_LINK by its two checks. -/
theorem linkCountersAndInterval : Obligations.LinkCountersAndInterval := by
  refine ⟨fun s serving => ?_, fun w s serving => ?_⟩
  · rw [exec_countersRead serving, ← serving.buffer]
    rfl
  · cases descends : s.stroke.state.descending with
    | true =>
      rw [if_pos ((descending_iff _).mp descends)]
      exact request_read (r := .setLink w) serving rfl (serveSetLink_state descends)
    | false =>
      have away : ¬(s.stroke.state = .approach ∨ s.stroke.state = .capture) :=
        fun h => absurd ((descending_iff _).mpr h) (by simp [descends])
      rw [if_neg away]
      cases good : intervalOk w with
      | true =>
        rw [if_pos ((intervalOk_iff w).mp good)]
        exact request_over (r := .setLink w)
          (u := { s with link := { s.link.heard with interval := w.toNat } }) serving rfl
          (serveSetLink_ok (s := s.heard) descends good) serving.buffer rfl serving.quiet serving.fed
      | false =>
        rw [if_neg fun h => absurd ((intervalOk_iff w).mpr h) (by simp [good])]
        exact request_read (r := .setLink w) serving rfl (serveSetLink_field descends good)

end Sys2Proof.Machine
end

section
/-! SUPPORT. The link's events: the report queue (10 R185), the end of a frame and the reply that waits
for a place (10 R182, R184), the break (10 R192), the watchdog (10 R187). -/

namespace Sys2Proof.Machine

/-! ### The report queue (10 R185) -/

theorem urgent_iff (v : Severity) : v.urgent = true ↔ v = .stroke ∨ v = .tool := by
  cases v <;> simp [Severity.urgent]

theorem urgent_eq_false_iff (v : Severity) : v.urgent = false ↔ v = .info ∨ v = .note := by
  cases v <;> simp [Severity.urgent]

/-- The oldest minor report of a queue is the first one behind urgent reports alone. -/
theorem eraseP_minor {a b : List Report} {old : Report}
    (minor : old.severity = .info ∨ old.severity = .note)
    (urgent : ∀ q ∈ a, q.severity = .stroke ∨ q.severity = .tool) :
    (a ++ old :: b).eraseP Report.minor = a ++ b := by
  have kept : ∀ q ∈ a, ¬q.minor = true := fun q hq => by
    simp [Report.minor, (urgent_iff _).mpr (urgent q hq)]
  have given : old.minor = true := by
    simp [Report.minor, (urgent_eq_false_iff _).mpr minor]
  rw [List.eraseP_append_right _ kept, List.eraseP_cons_of_pos given]

/-- Settles O32, by the three cases of a post. -/
theorem reportQueueOverflows : Obligations.ReportQueueOverflows := by
  intro p l
  refine ⟨fun room => if_pos room, fun a b old queue full urgent minor before => ?_,
    fun full discarded => ?_⟩
  · have given : l.reports.any Report.minor = true := by
      refine List.any_eq_true.mpr ⟨old, by simp [queue], ?_⟩
      simp [Report.minor, (urgent_eq_false_iff _).mpr minor]
    have displaces : l.post p = { l with
        reports := l.reports.eraseP Report.minor ++ [p], lost := satSucc 65535 l.lost } := by
      simp [Link.post, full, given, (urgent_iff _).mpr urgent]
    rw [displaces, queue, eraseP_minor minor before]
    rfl
  · have keeps : (p.severity.urgent && l.reports.any Report.minor) = false := by
      rcases discarded with info | note | urgent
      · simp [info, Severity.urgent]
      · simp [note, Severity.urgent]
      · refine Bool.and_eq_false_iff.mpr (.inr (List.any_eq_false.mpr fun q hq => ?_))
        simp [Report.minor, (urgent_iff _).mpr (urgent q hq)]
    have discards : l.post p = { l with lost := satSucc 65535 l.lost } := by
      simp [Link.post, full, keeps]
    exact discards

/-! ### The end of a frame (10 R184) -/

/-- A running part that owes nothing takes a command's own effect at once, whatever waits to be
sent. -/
theorem live_quiet {s : State} (held : s.held = false) (due : s.due = []) (f : State → State) :
    live f s = .next (transmit true (f s)) := by
  simp [live, held, settle_quiet due]

/-- The last check byte has been sent, and the transmitter is free. -/
def State.freed (s : State) : State := { s with link := { s.link with sending := none } }

section frameEnd

variable {s : State} {f : OutFrame}

/-- The end of a frame frees the transmitter, which chooses again. -/
theorem exec_frameTransmitted (held : s.held = false) (due : s.due = [])
    (sending : s.link.sending = some f) (plain : f.makesReset = false) :
    exec .frameTransmitted s = .next (transmit true (transmit false s.freed)) := by
  have ended : frameTransmitted s = transmit false s.freed := by
    simp [frameTransmitted, sending, plain, State.onLink, State.freed]
  exact (live_quiet held due _).trans (by rw [ended])

/-- At the end of a frame the oldest reply goes before any report. -/
theorem transmit_false_reply {r : Reply} {rs : List Reply} (due : s.due = [])
    (sending : s.link.sending = none) (replies : s.link.replies = r :: rs) :
    transmit false s = sendReply r rs s := by
  unfold transmit
  cases s.link.reports <;> simp [due, sending, replies]

/-- The oldest report goes where no reply waits. -/
theorem transmit_first_report {b : Bool} {p : Report} {ps : List Report}
    (undue : Due.toolReset ∉ s.due) (sending : s.link.sending = none) (replies : s.link.replies = [])
    (reports : s.link.reports = p :: ps) : transmit b s = sendReport p ps s := by
  simp [transmit, undue, sending, replies, reports]

/-- Where no reply waits, the reports decide: the oldest one goes out, if there is one. -/
theorem transmit_reports {b : Bool} (undue : Due.toolReset ∉ s.due) (sending : s.link.sending = none)
    (replies : s.link.replies = []) :
    transmit b s = { s with link := { s.link with
      sending := s.link.reports.head?.map .report, reports := s.link.reports.tail } } := by
  cases reports : s.link.reports with
  | nil =>
    have same : s = { s with link := { s.link with
      sending := s.link.sending, reports := s.link.reports } } := rfl
    rw [sending, reports] at same
    exact (transmit_empty replies reports).trans same
  | cons p ps => exact transmit_first_report undue sending replies reports

/-- The oldest reply goes out, and a reply that waits for its place becomes due. -/
theorem sendReply_eq {r : Reply} {rs : List Reply} (due : s.due = []) (room : rs.length < 4) :
    sendReply r rs s = { s with
      due := match s.link.buffer with
        | .waiting _ => [.deferredReply]
        | .empty | .snapshot | .mapCommit | .toolReset => []
      link := { s.link with replies := rs, sending := some (.reply r) } } := by
  unfold sendReply
  cases buffer : s.link.buffer with
  | waiting w =>
    simp [State.onLink, Link.replyDue, buffer, Link.replyRoom, room, State.withDue, due]
  | empty | snapshot | mapCommit | toolReset =>
    simp [State.onLink, Link.replyDue, buffer, due]

end frameEnd

/-! ### A reply that waits for a place (10 R182) -/

/-- The due step of a waiting reply places it. -/
theorem exec_deferredReplyPlaced {s : State} {w : Waiting} (held : s.held = false)
    (due : s.due = [.deferredReply]) (waits : s.link.buffer = .waiting w) :
    exec .deferredReplyPlaced s = .next (transmit true (place w (s.withDue []))) := by
  have taken : takeDue .deferredReply (s.withDue []) = place w (s.withDue []) := by
    simp [takeDue, deferredReplyTaken, waits]
  exact (liveDue_owing held due rfl).trans (by rw [taken])

theorem ite_uncounted {p : Prop} [Decidable p] {a b : State × Answer} (ha : a.2 ≠ .counters)
    (hb : b.2 ≠ .counters) : (if p then a else b).2 ≠ .counters := by
  split
  · exact ha
  · exact hb

/-- COUNTERS_READ alone is answered from the counters (10 R189). -/
theorem serve_uncounted {r : Request} (other : r ≠ .countersRead) (s : State) :
    (serve r s).2 ≠ .counters := by
  cases r with
  | countersRead => exact absurd rfl other
  | ping | status | toolReset | getStroke | lockoutRead | readLines | snapshot | mapBegin
  | writeLines => exact nofun
  | getSegment | mapRead | getClass | profileRead => exact ite_uncounted nofun nofun
  | setLink | mapCommit => exact ite_uncounted nofun (ite_uncounted nofun nofun)
  | tare | resultRead =>
    exact ite_uncounted nofun (ite_uncounted nofun (ite_uncounted nofun nofun))
  | shuntCheck | lockoutClear =>
    exact ite_uncounted nofun
      (ite_uncounted nofun (ite_uncounted nofun (ite_uncounted nofun nofun)))
  | setSense =>
    refine ite_uncounted nofun (ite_uncounted nofun ?_)
    split <;> exact nofun
  | setSegment =>
    exact ite_uncounted nofun (ite_uncounted nofun (ite_uncounted nofun (ite_uncounted nofun nofun)))
  | setStroke | setClass =>
    refine ite_uncounted nofun ?_
    split <;> exact nofun
  | arm =>
    refine ite_uncounted nofun ?_
    split <;> exact nofun
  | disarm =>
    show (serveDisarm s).2 ≠ .counters
    unfold serveDisarm
    split <;> exact nofun
  | abort =>
    show (serveAbort s).2 ≠ .counters
    unfold serveAbort
    split <;> exact nofun
  | mapAdd =>
    refine ite_uncounted nofun ?_
    split
    · exact nofun
    · exact ite_uncounted nofun nofun
  | resultSummary | setLines =>
    refine ite_uncounted nofun (ite_uncounted nofun ?_)
    split <;> exact nofun

/-- What an answer but that of COUNTERS_READ makes of the buffer: one reply to be placed, or a request
that stays in it. -/
theorem answer_forms (kind : Byte) {a : Answer} (uncounted : a ≠ .counters) :
    (∃ p, ∀ u, answer kind a u = place (.made p) u) ∨ (∃ b, ∀ u, answer kind a u = setBuffer b u) := by
  cases a with
  | reply status detail => exact .inl ⟨_, fun _ => rfl⟩
  | counters => exact absurd rfl uncounted
  | snapshot => exact .inr ⟨.snapshot, fun _ => rfl⟩
  | mapCommit => exact .inr ⟨.mapCommit, fun _ => rfl⟩
  | toolReset => exact .inl ⟨_, fun _ => rfl⟩

/-- A made reply that finds a place, whatever the buffer is left with. -/
theorem place_room {s : State} (r : Reply) (room : s.link.replies.length < 4) :
    place (.made r) s = { s with link := { s.link with
      replies := s.link.replies ++ [r], buffer := if r.resets then .toolReset else .empty } } := by
  simp [place, Link.replyRoom, room, placeNow, setBuffer, State.onLink, Link.enqueue]

section crowded

variable {s : State} {r : Request}

/-- A request in the empty buffer of a part that is sending: its owner's action, and its answer. -/
theorem exec_request_sending (ready : s.Ready) (busy : s.link.sending.isSome = true)
    (buffer : s.link.buffer = .empty) :
    exec r.instr s = .next (answer r.kind (serve r s.heard).2 (serve r s.heard).1) := by
  have empty : s.heard.link.buffer = .empty := buffer
  have reload : reloadWatchdog s = s.heard := rfl
  have noted := (serve_noting (.refl s.heard) r).link.sending
  have answered : (answer r.kind (serve r s.heard).2 (serve r s.heard).1).link.sending =
      (serve r s.heard).1.link.sending := by
    generalize (serve r s.heard).1 = u
    have placed (w : Waiting) : (place w u).link.sending = u.link.sending := by
      unfold place
      split
      · cases w <;> rfl
      · rfl
    cases (serve r s.heard).2 with
    | reply | counters | toolReset => exact placed _
    | snapshot | mapCommit => rfl
  rw [exec_request, request, live_ready ready]
  simp only [offer, reload, empty]
  rw [transmit_busy (by rw [answered, noted]; exact busy)]

/-- An owner leaves the reply queue as it finds it. -/
theorem serve_replies (r : Request) (s : State) : (serve r s).1.link.replies = s.link.replies := by
  have same : serve r s = _ := serve_withReplies s.link.replies r s
  rw [same]
  rfl

/-- A request served while four replies are queued: what it does with an empty queue, with the reply,
if it makes one, waiting in the buffer (10 R182). -/
theorem exec_request_crowded (ready : s.Ready) (busy : s.link.sending.isSome = true)
    (buffer : s.link.buffer = .empty) (full : s.link.replies.length = 4)
    (other : r ≠ .countersRead) :
    ∃ u, exec r.instr (s.withReplies []) = .next u ∧
      (u.link.replies = [] →
        exec r.instr s = .next { u with link := { u.link with replies := s.link.replies } }) ∧
      (∀ p ps, u.link.replies = p :: ps → ps = [] ∧ exec r.instr s = .next { u with
        link := { u.link with replies := s.link.replies, buffer := .waiting (.made p) } }) := by
  have emptied : (s.withReplies []).Ready :=
    ⟨ready.runs, ready.quiet, fun free => by
      rw [show s.link.sending = none from free] at busy; cases busy⟩
  have replies : (serve r s.heard).1.link.replies = s.link.replies := serve_replies r s.heard
  have served : serve r (s.withReplies []).heard =
      ((serve r s.heard).1.withReplies [], (serve r s.heard).2) := serve_withReplies [] r s.heard
  have uncounted := serve_uncounted other s.heard
  refine ⟨_, exec_request_sending emptied busy buffer, ?_⟩
  rw [exec_request_sending ready busy buffer, served]
  generalize (serve r s.heard).1 = w at replies
  have filled : w.link.replies.length = 4 := replies ▸ full
  generalize (serve r s.heard).2 = a at uncounted
  rcases answer_forms r.kind uncounted with ⟨p, form⟩ | ⟨b, form⟩
  · rw [form, form, place_room p (by exact Nat.zero_lt_succ 3), place_full (by omega)]
    refine ⟨nofun, fun q qs one => ?_⟩
    obtain ⟨rfl, rfl⟩ := List.cons.inj one
    refine ⟨rfl, ?_⟩
    rw [← replies]
    rfl
  · rw [form, form]
    refine ⟨fun _ => ?_, fun q qs one => absurd one nofun⟩
    rw [← replies]
    rfl

/-- COUNTERS_READ waits for its place with nothing yet read (10 R189). -/
theorem exec_countersRead_crowded (ready : s.Ready) (busy : s.link.sending.isSome = true)
    (buffer : s.link.buffer = .empty) (full : s.link.replies.length = 4) :
    exec .countersRead s =
      .next { s with link := { s.link.heard with buffer := .waiting .counters } } :=
  (exec_request_sending (r := .countersRead) ready busy buffer).trans
    (congrArg Host.Outcome.next (place_full (s := s.heard)
      (by rw [show s.heard.link.replies.length = 4 from full]; decide)))

end crowded

/-- Settles O29: the transmitter's choice at a frame end by what is queued, the due reply placed, and a
request served before four queued replies. -/
theorem frameEndChoosesTheNextFrame : Obligations.FrameEndChoosesTheNextFrame := by
  intro s held
  refine ⟨fun ready free => ?_, fun f r rs due sending plain replies room => ?_,
    fun f p ps due sending plain replies reports => ?_,
    fun f due sending plain replies reports => ?_, fun r due fed waits plain room => ?_,
    fun due fed waits room => ?_, fun ready buffer full => ?_⟩
  · exact live_fed ready (by simp [frameTransmitted, free]) ready.fed
  · rw [exec_frameTransmitted held due sending plain, transmit_false_reply (s := s.freed) due rfl replies,
      sendReply_eq (s := s.freed) due room, transmit_busy rfl]
    rfl
  · rw [exec_frameTransmitted held due sending plain,
      transmit_first_report (s := s.freed) (by simp [State.freed, due]) rfl replies reports,
      transmit_busy rfl]
    rfl
  · rw [exec_frameTransmitted held due sending plain, transmit_empty (s := s.freed) replies reports,
      transmit_empty (s := s.freed) replies reports]
    rfl
  · rw [exec_deferredReplyPlaced held due waits,
      place_made (s := s.withDue []) room plain]
    exact congrArg Host.Outcome.next (transmit_enqueued (u := s.withDue [])
      (l := { s.link with buffer := .empty }) rfl fed nofun)
  · rw [exec_deferredReplyPlaced held due waits, transmit_counters (s := s.withDue []) room rfl fed]
    rfl
  · have busy : s.link.sending.isSome = true := by
      cases sending : s.link.sending with
      | some f => rfl
      | none => simp [(ready.fed sending).1] at full
    exact ⟨exec_countersRead_crowded ready busy buffer full,
      fun r other => exec_request_crowded ready busy buffer full other⟩

/-! ### The break (10 R192) -/

/-- A frame cut off counts as lost where it is a report. -/
theorem cutOff_eq (f : Option OutFrame) (lost : Nat) :
    (if f.any OutFrame.isReport then satSucc 65535 lost else lost) =
      match f with
      | some (.report _) => if lost < 65535 then lost + 1 else 65535
      | some (.reply _) | none => lost := by
  rcases f with _ | (r | p) <;> rfl

/-- Settles O30: the reply side is empty, so the reports decide what is sent. -/
theorem linkResetEmptiesTheReplySide : Obligations.LinkResetEmptiesTheReplySide := by
  intro s held due
  refine (live_quiet held due _).trans (congrArg Host.Outcome.next ?_)
  have reset : linkReset s = { s with link := { s.link with
      receiver := .seek, buffer := .empty, replies := [], sending := none
      lost := match s.link.sending with
        | some (.report _) => if s.link.lost < 65535 then s.link.lost + 1 else 65535
        | some (.reply _) | none => s.link.lost } } := by
    rw [← cutOff_eq]
    rfl
  have undue : Due.toolReset ∉ (linkReset s).due := by simp [linkReset, due, State.onLink]
  exact (transmit_reports undue rfl rfl).trans (congrArg (fun v : State => { v with link := { v.link with
    sending := v.link.reports.head?.map .report, reports := v.link.reports.tail } }) reset)

/-! ### The watchdog (10 R187) -/

section watchdog

variable {s : State} {n : Nat}

theorem watchdogExpiry_first (timer : s.link.watchdog = some n) (first : s.link.expiries = 0) :
    watchdogExpiry s = post (linkQuiet s.stroke.number s.link.interval)
      { s with link := { s.link with watchdog := some s.link.interval, expiries := 1 } } := by
  simp [watchdogExpiry, timer, first, State.onLink]

theorem watchdogExpiry_second (timer : s.link.watchdog = some n) (second : s.link.expiries = 1) :
    watchdogExpiry s = halt .linkLost (stopWatchdog s) := by
  simp [watchdogExpiry, timer, second]

end watchdog

/-- Settles O31: the first expiry reports, the second is a halt cause over a stopped watchdog. -/
theorem watchdogExpiresTwice : Obligations.WatchdogExpiresTwice := by
  intro s ready
  have stopped : (stopWatchdog s).SentAs 16 (stopWatchdog s) := .of_fed ready.quiet ready.fed
  have halts {n : Nat} (timer : s.link.watchdog = some n) (second : s.link.expiries = 1)
      (descends : s.stroke.state.descending = true) : exec .watchdogExpiry s =
        .next (if s.home then (s.haltedBy .linkLost).ended else s.haltedBy .linkLost) := by
    refine (live_ready ready _).trans (congrArg Host.Outcome.next ?_)
    rw [watchdogExpiry_second timer second]
    exact (stopped.halt_descending .linkLost descends).transmit
  refine ⟨fun none => ?_, fun n timer first => ?_, fun n timer second descends away => ?_,
    fun n timer second descends atHome => ?_⟩
  · exact live_fed ready (by simp [watchdogExpiry, none]) ready.fed
  · refine (live_ready ready _).trans (congrArg Host.Outcome.next ?_)
    rw [watchdogExpiry_first timer first]
    exact transmit_post (u := { s with link := { s.link with
      watchdog := some s.link.interval, expiries := 1 } }) (by simp [ready.quiet]) ready.fed
  · rw [halts timer second descends, away]
    rfl
  · rw [halts timer second descends, if_pos atHome]

end Sys2Proof.Machine
end

section
/-! SUPPORT. The tool reset (10 R191): its request, the end of its reply, the reset itself, from the due
list or by a pulse on RESET_N, and what RESTART meets at the transmitter. -/

namespace Sys2Proof.Machine

/-! ### The request and the end of its reply (10 R191) -/

/-- TOOL_RESET is answered at once, and keeps the buffer. -/
theorem exec_toolReset {s : State} (serving : s.Serving) : exec .toolReset s = .next { s with
    link := ({ s.link.heard with buffer := .toolReset } : Link).replied
      { kind := 0x85#8, status := .ok, detail := [], resets := true } } := by
  have offered : offer Request.toolReset.kind serveToolReset s =
      place (.made { kind := 0x85#8, status := .ok, detail := [], resets := true }) s.heard := by
    have buffer : s.heard.link.buffer = .empty := serving.buffer
    have reload : reloadWatchdog s = s.heard := rfl
    simp only [offer, reload, buffer]
    rfl
  refine (live_ready serving.toReady _).trans (congrArg Host.Outcome.next ?_)
  rw [offered, place_room (s := s.heard) _ serving.room]
  exact transmit_enqueued (u := s) (l := { s.link.heard with buffer := .toolReset })
    serving.quiet serving.fed nofun

/-- A free transmitter sends nothing before a tool reset that is due. -/
theorem transmit_resetting {b : Bool} {s : State} (due : s.due = [.toolReset]) :
    transmit b s = s := by
  cases sending : s.link.sending <;> simp [transmit, sending, due]

/-- The end of the reply of a TOOL_RESET makes the tool reset due (10 R191). -/
theorem exec_frameTransmitted_resets {s : State} {r : Reply} (held : s.held = false)
    (due : s.due = []) (sending : s.link.sending = some (.reply r)) (resets : r.resets = true) :
    exec .frameTransmitted s =
      .next { s with due := [.toolReset], link := { s.link with sending := none } } := by
  have makes : (OutFrame.reply r).makesReset = true := resets
  have ended : frameTransmitted s =
      { s with due := [.toolReset], link := { s.link with sending := none } } := by
    simp [frameTransmitted, sending, makes, State.onLink, State.withDue, due]
  exact (live_quiet held due _).trans (by rw [ended, transmit_resetting rfl])

/-! ### What the tool reset makes of each unit -/

/-- All that the tool reset does before the buffer is settled and RESTART is posted. -/
def State.restarting (s : State) : State :=
  { s with
    cal := { s.cal with run := none, switches := switchesOpen }
    pos := s.pos.toolReset
    profile := Profile.initial
    stroke := s.stroke.toolReset
    guard := s.guard.toolReset s.home
    map := { s.map with staging := [], commit := none }
    engine := Engine.initial
    lines := { s.lines with indication := .none }
    link := s.link.toolReset
    due := [] }

theorem toolReset_of {s u : State} (settled : resetBuffer s.restarting = u) :
    toolReset (s.withDue []) = post (restartReport s.stroke.state u.stroke.number) u := by
  subst settled
  simp only [toolReset, clearCal, State.onCal, State.onPos, State.onProfile, State.onStroke,
    State.onGuard, State.onMap, invalidateResults, State.onEngine, State.onLines, State.onLink,
    State.withDue, State.restarting, Engine.initial]
  rfl

/-- The stop-reason set that a tool reset leaves is empty at home alone, with no lockout and no standing
reset hold. -/
theorem resetReasons_isEmpty (home : Bool) (r : StopSet) :
    (resetReasons home r).isEmpty = true ↔
      r.lockout = false ∧ r.resetHold = false ∧ home = true := by
  simp [resetReasons, StopSet.isEmpty]

theorem toolReset_readback (home : Bool) (g : Guard) : (g.toolReset home).readback =
    if g.reasons.lockout = false ∧ g.reasons.resetHold = false ∧ home = true then .stopped
    else if g.reasons.isEmpty = true ∧ g.sensed = .high then .running
    else g.readback := by
  simp only [Guard.toolReset, resetReasons_isEmpty, Bool.and_eq_true, beq_iff_eq]

/-- What a tool reset leaves in the buffer: a SNAPSHOT (01 R20). -/
def Buffer.restarted : Buffer → Buffer
  | .snapshot => .snapshot
  | .empty | .mapCommit | .toolReset | .waiting _ => .empty

/-- The reply that waited for a place, where the tool reset places it (10 R191). -/
def Buffer.placed : Buffer → List Reply
  | .waiting (.made r) => if r.resets then [] else [r]
  | .empty | .snapshot | .mapCommit | .toolReset | .waiting .counters => []

theorem Buffer.restarted_eq (b : Buffer) :
    b.restarted = if b = .snapshot then .snapshot else .empty := by
  cases b <;> rfl

theorem Buffer.placed_length (b : Buffer) : b.placed.length ≤ 1 := by
  rcases b with _ | _ | _ | _ | (r | _)
  case waiting.made =>
    show (if r.resets then [] else [r]).length ≤ 1
    split <;> simp
  all_goals exact Nat.zero_le 1

theorem Buffer.restarted_of_placed (b : Buffer) (some : b.placed ≠ []) : b.restarted = .empty := by
  cases b with
  | snapshot => exact absurd rfl some
  | empty | mapCommit | toolReset | waiting => rfl

/-- The buffer settled by a tool reset, but for a waiting COUNTERS_READ. -/
theorem resetBuffer_restarting {s : State} (uncounted : s.link.buffer ≠ .waiting .counters) :
    resetBuffer s.restarting = { s.restarting with link := { s.restarting.link with
      buffer := s.link.buffer.restarted, replies := s.link.buffer.placed } } := by
  have same : s.restarting.link.buffer = s.link.buffer := rfl
  unfold resetBuffer
  rw [same]
  cases buffer : s.link.buffer with
  | empty | snapshot =>
    rw [← same] at buffer
    exact congrArg (fun b => ({ s.restarting with
      link := { s.restarting.link with buffer := b } } : State)) buffer
  | mapCommit | toolReset => rfl
  | waiting w =>
    cases w with
    | counters => exact absurd buffer uncounted
    | made r =>
      cases resets : r.resets with
      | true => simp [setBuffer, State.onLink, Buffer.restarted, Buffer.placed, resets]; rfl
      | false =>
        simp [place_made (s := s.restarting) (by exact Nat.zero_lt_succ 3) resets,
          Buffer.restarted, Buffer.placed, resets]
        rfl

/-- A COUNTERS_READ that waited is placed by the tool reset, with the counters as they stood
(10 R189). -/
theorem resetBuffer_counters {s : State} (waits : s.link.buffer = .waiting .counters) :
    resetBuffer s.restarting = { s.restarting with
      pos := { s.restarting.pos with stale := 0 }
      link := { s.restarting.link with
        buffer := .empty, crcErrors := 0, timeouts := 0, overruns := 0, lost := 0
        replies := [countersReply s] } } := by
  have same : s.restarting.link.buffer = .waiting .counters := waits
  unfold resetBuffer
  rw [same]
  exact place_counters (s := s.restarting) (Nat.zero_lt_succ 3)

/-! ### What RESTART meets at the transmitter (10 R184) -/

/-- The transmitter's choice behind a tool reset, over the report `p` and the replies `q` placed: before,
the frame in transmission; after, the frame in transmission and what is left in both queues. -/
inductive Restarts (p : Report) :
    Option OutFrame → List Reply → Option OutFrame → List Reply → List Report → Prop
  /-- A frame in transmission goes on. -/
  | goesOn (f : OutFrame) (q : List Reply) : Restarts p (some f) q (some f) q [p]
  /-- RESTART goes out. -/
  | report (q : List Reply) : Restarts p none q (some (.report p)) q []
  /-- The reply placed goes out before it. -/
  | reply (r : Reply) : Restarts p none [r] (some (.reply r)) [] [p]

section restarts

variable {p : Report} {f g : Option OutFrame} {q₀ q : List Reply} {ps : List Report}

theorem Restarts.none_left (h : Restarts p f q₀ g q ps) (none : q₀ = []) : q = [] := by
  cases h with
  | goesOn | report => exact none
  | reply => rfl

theorem Restarts.one_left {r : Reply} (h : Restarts p f q₀ g q ps) (one : q₀ = [r]) :
    q = [r] ∨ (q = [] ∧ g = some (.reply r)) := by
  cases h with
  | goesOn | report => exact .inl one
  | reply => exact .inr ⟨rfl, by rw [(List.cons.inj one).1]⟩

theorem Restarts.sending {o : OutFrame} (h : Restarts p f q₀ g q ps) (sends : f = some o) :
    g = some o := by
  cases h with
  | goesOn => exact sends
  | report | reply => cases sends

theorem Restarts.restart (h : Restarts p f q₀ g q ps) : p ∈ ps ∨ g = some (.report p) := by
  cases h with
  | goesOn | reply => exact .inl (.head _)
  | report => exact .inr rfl

theorem Restarts.reports (h : Restarts p f q₀ g q ps) : ps.length ≤ 1 := by
  cases h with
  | goesOn | reply => exact Nat.le_refl 1
  | report => exact Nat.zero_le 1

end restarts

theorem post_first {u : State} (p : Report) (reports : u.link.reports = []) :
    post p u = { u with link := { u.link with reports := [p] } } := by
  simp [post, State.onLink, Link.post, reports, Config.reportPlaces]

theorem transmit_restart {u : State} (p : Report) (due : u.due = []) (reports : u.link.reports = [])
    (one : u.link.replies.length ≤ 1) (free : u.link.replies ≠ [] → u.link.buffer = .empty) :
    ∃ n f q ps, transmit true (post p u) = { u with
        freeCount := n, link := { u.link with sending := f, replies := q, reports := ps } } ∧
      Restarts p u.link.sending u.link.replies f q ps := by
  rw [post_first p reports]
  cases sending : u.link.sending with
  | some f =>
    refine ⟨u.freeCount, some f, u.link.replies, [p], ?_, .goesOn f _⟩
    rw [transmit_busy (by simp [sending]), ← sending]
  | none =>
    match replies : u.link.replies with
    | [] =>
      refine ⟨u.freeCount, some (.report p), [], [], ?_, .report _⟩
      rw [transmit_report (s := { u with link := { u.link with reports := [p] } }) sending due
        replies rfl, ← replies]
    | [r] =>
      have either := transmit_either
        (s := { u with link := { u.link with replies := [], reports := [p] } }) r due sending
        (free (by simp [replies])) rfl rfl
      have same : { u with link := { u.link with reports := [p] } } = { u with
          link := { u.link with replies := [] ++ [r], reports := [p] } } := by
        rw [List.nil_append, ← replies]
      rw [same]
      rcases either with first | first
      · exact ⟨_, _, _, _, first, .report _⟩
      · exact ⟨_, _, _, _, first, .reply r⟩
    | _ :: _ :: _ => simp [replies] at one

/-! ### The state after it -/

/-- The state after a tool reset: the reset itself, the buffer settled, and the transmitter's choice over
RESTART and the reply placed. -/
theorem restartedTo_restarting {s : State} {f : Option OutFrame} {q queued : List Reply}
    {ps : List Report} (n : Nat)
    (placed : s.link.buffer ≠ .waiting .counters → queued = s.link.buffer.placed)
    (chosen : Restarts (restartReport s.stroke.state s.stroke.number)
      (s.link.sending.map OutFrame.withoutReset) queued f q ps) :
    s.RestartedTo { s.restarting with
      freeCount := n
      link := { s.restarting.link with
        buffer := s.link.buffer.restarted, sending := f, replies := q, reports := ps } } where
  acq := rfl
  cal := rfl
  pos := rfl
  profile := rfl
  stroke := rfl
  reasons := rfl
  readback := toolReset_readback s.home s.guard
  lockout := rfl
  sensed := rfl
  trips := ⟨rfl, rfl, rfl, rfl⟩
  overtravel := ⟨rfl, rfl, rfl⟩
  map := rfl
  engine := rfl
  lines := rfl
  straps := ⟨rfl, rfl⟩
  interval := rfl
  receiver := rfl
  watchdog := ⟨rfl, rfl⟩
  counters := ⟨rfl, rfl, rfl, rfl⟩
  buffer := s.link.buffer.restarted_eq
  replies unwaiting := by
    refine chosen.none_left ?_
    rw [placed (unwaiting _)]
    cases buffer : s.link.buffer with
    | waiting w => exact absurd buffer (unwaiting w)
    | empty | snapshot | mapCommit | toolReset => rfl
  placed r waits := by
    have one : queued = if r.resets then [] else [r] := by
      rw [placed (by simp [waits]), waits]
      rfl
    exact ⟨fun resets => chosen.none_left (by rw [one, if_pos resets]),
      fun plain => chosen.one_left (by rw [one, plain]; rfl)⟩
  sending g sends := chosen.sending (by rw [sends]; rfl)
  restart := chosen.restart
  reports := chosen.reports
  due := rfl

/-- The reset of a part in which no COUNTERS_READ waits. -/
theorem transmit_toolReset {s : State} (uncounted : s.link.buffer ≠ .waiting .counters) :
    s.RestartedTo (transmit true (toolReset (s.withDue []))) := by
  obtain ⟨n, f, q, ps, sent, chosen⟩ := transmit_restart
    (u := { s.restarting with link := { s.restarting.link with
      buffer := s.link.buffer.restarted, replies := s.link.buffer.placed } })
    (restartReport s.stroke.state s.stroke.number) rfl rfl
    s.link.buffer.placed_length s.link.buffer.restarted_of_placed
  rw [toolReset_of (resetBuffer_restarting uncounted)]
  refine sent ▸ ?_
  exact restartedTo_restarting n (fun _ => rfl) chosen

/-- The reset of a part in which a COUNTERS_READ waits: the counters are read into the reply and
cleared, and all else is as in any reset. -/
theorem transmit_toolReset_counters {s : State} (waits : s.link.buffer = .waiting .counters) :
    ∃ t, transmit true (toolReset (s.withDue [])) = t ∧
      t.pos.stale = 0 ∧ t.link.crcErrors = 0 ∧ t.link.timeouts = 0 ∧ t.link.overruns = 0 ∧
      t.link.lost = 0 ∧ t.link.buffer = .empty ∧
      (t.link.replies = [countersReply s] ∨ t.link.sending = some (.reply (countersReply s))) ∧
      s.RestartedTo { t with
        pos := { t.pos with stale := s.pos.stale }
        link := { t.link with
          crcErrors := s.link.crcErrors, timeouts := s.link.timeouts
          overruns := s.link.overruns, lost := s.link.lost } } := by
  obtain ⟨n, f, q, ps, sent, chosen⟩ := transmit_restart
    (u := { s.restarting with
      pos := { s.restarting.pos with stale := 0 }
      link := { s.restarting.link with
        buffer := .empty, crcErrors := 0, timeouts := 0, overruns := 0, lost := 0
        replies := [countersReply s] } })
    (restartReport s.stroke.state s.stroke.number) rfl rfl (Nat.le_refl 1) (fun _ => rfl)
  rw [toolReset_of (resetBuffer_counters waits)]
  refine ⟨_, sent, rfl, rfl, rfl, rfl, rfl, rfl, ?_, ?_⟩
  · exact (chosen.one_left rfl).imp_right And.right
  · have emptied : s.link.buffer.restarted = .empty := by rw [waits]; rfl
    have after := restartedTo_restarting (s := s) n (fun uncounted => absurd waits uncounted) chosen
    rw [emptied] at after
    exact after

/-! ### The two commands that reset (10 R191) -/

theorem toolResetPulseOk_iff (us : Nat) : toolResetPulseOk us = true ↔ 10 ≤ us ∧ us < 10000 := by
  simp [toolResetPulseOk]

/-- The due tool reset, taken. -/
theorem exec_toolResetActs {s : State} (held : s.held = false) (due : s.due = [.toolReset]) :
    exec .toolResetActs s = .next (transmit true (toolReset (s.withDue []))) :=
  liveDue_owing held due rfl

/-- A pulse on RESET_N long enough for a tool reset and too short for a power-on reset. -/
theorem exec_resetNToolReset {s : State} {us : Nat} (held : s.held = false) (due : s.due = [])
    (least : 10 ≤ us) (most : us < 10000) :
    exec (.resetNToolReset us) s = .next (transmit true (toolReset (s.withDue []))) := by
  have same : s.withDue [] = s := by rw [← due]; rfl
  have pulse : resetPulse us s = toolReset s := if_pos ((toolResetPulseOk_iff us).mpr ⟨least, most⟩)
  exact (live_quiet held due _).trans (by rw [pulse, same])

/-- Settles O10: the request and its reply's end, then the reset itself, by whether a COUNTERS_READ
waits, and the pulse that is too short. -/
theorem toolResetActsAfterItsReply : Obligations.ToolResetActsAfterItsReply := by
  refine ⟨fun s => ⟨exec_toolReset, fun r => exec_frameTransmitted_resets⟩,
    fun us s held due uncounted least most => ⟨_, exec_resetNToolReset held due least most, ?_⟩,
    fun s held due uncounted => ⟨_, exec_toolResetActs held due, ?_⟩,
    fun c s held waits resets => ?_, fun us s ready short => ?_⟩
  · exact transmit_toolReset uncounted
  · exact transmit_toolReset uncounted
  · have reset : exec c s = .next (transmit true (toolReset (s.withDue []))) := by
      rcases resets with ⟨rfl, due⟩ | ⟨us, rfl, due, least, most⟩
      · exact exec_toolResetActs held due
      · exact exec_resetNToolReset held due least most
    obtain ⟨t, rfl, stale, crcErrors, timeouts, overruns, lost, buffer, reply, after⟩ :=
      transmit_toolReset_counters waits
    exact ⟨_, reset, stale, crcErrors, timeouts, overruns, lost, buffer,
      ⟨countersReply s, rfl, rfl, rfl, reply⟩, after⟩
  · have ignored : resetPulse us s = s :=
      if_neg fun long => absurd ((toolResetPulseOk_iff us).mp long).1 (by omega)
    exact live_fed ready ignored ready.fed

end Sys2Proof.Machine
end

section
/-! SUPPORT. The step by what it finds: a waiting command, a part held in power-on reset, or the idle
tick (00 section 2; logs 3, 20, 21, 22). -/

namespace Sys2Proof.Machine

theorem step_of_pending {s : State} {c : Instr} {rest : List Instr} (waiting : s.pending = c :: rest) :
    step s = exec c { s with pending := rest } := by
  rw [step, waiting]

/-- A part held in power-on reset waits, whatever is due (log 20). -/
theorem step_of_held {s : State} (waiting : s.pending = []) (held : s.held = true) :
    step s = .next s := by
  rw [step, waiting]
  exact congrArg Host.Outcome.next (if_pos held)

/-! ### The two parts of the idle tick (logs 21, 22) -/

theorem referenceFalls_of_low {s : State} (low : s.pos.encZ = .low) : referenceFalls s = s := by
  rcases referenceFalls_eq s with ⟨-, same⟩ | ⟨high, -⟩
  · exact same
  · simp [low] at high

theorem referenceFalls_of_high {s : State} (high : s.pos.encZ = .high) :
    ∃ level, referenceFalls s =
      { s with pos := { s.pos with encZ := level }, freeCount := s.freeCount + 1 } := by
  rcases referenceFalls_eq s with ⟨low, -⟩ | ⟨-, falls⟩
  · simp [high] at low
  · exact falls

theorem workOn_of_resting {s : State} (resting : s.engine.run = none) : workOn s = s := by
  rw [workOn, resting]

theorem workOn_of_running {s : State} {i : EvalInputs} (running : s.engine.run = some i) :
    workOn s =
      { s with engine := { s.engine with work := s.engine.work.advance s.map s.profile i } } := by
  rw [workOn, running]
  rfl

/-- Settles O1: the front command, the held part, and the idle tick by the engine and by ENC_Z. -/
theorem stepTakesFrontCommand : Obligations.StepTakesFrontCommand := by
  refine fun s => ⟨fun c rest => step_of_pending, step_of_held, fun waiting quiet resting low => ?_,
    fun i waiting quiet runs running low => ?_, fun waiting quiet runs resting high => ?_⟩
  · cases held : s.held with
    | true => exact step_of_held waiting held
    | false =>
      rw [step_eq_tick waiting quiet held, tick, referenceFalls_of_low low,
        workOn_of_resting resting]
  · rw [step_eq_tick waiting quiet runs, tick, referenceFalls_of_low low,
      workOn_of_running running]
  · obtain ⟨level, falls⟩ := referenceFalls_of_high high
    have still : (referenceFalls s).engine.run = none := by rw [falls]; exact resting
    exact ⟨level, by rw [step_eq_tick waiting quiet runs, tick, workOn_of_resting still, falls]⟩

end Sys2Proof.Machine
end
